-- ==== Sys2Proof/Word.lean ====
section
/-!
DEFINITION. The plain types of the KQ480: bytes, the numbers that name its objects, and tables of a
fixed number of like things.
-/

namespace Sys2Proof

/-- One byte of the Supervisor Link or of the Field Loop. -/
abbrev Byte := BitVec 8

/-- A level L of a bay address (0-7). -/
abbrev LevelId := Fin 8
/-- A row entry of the whole map, numbered L × 32 + R (0-255), which is address order. -/
abbrev RowKey := Fin 256
/-- A bay table of the pool (0-63). -/
abbrev TableId := Fin 64
/-- A zone (0-23). -/
abbrev ZoneId := Fin 24
/-- A lane (0-7). -/
abbrev LaneId := Fin 8
/-- A hold (0-127). -/
abbrev HoldId := Fin 128
/-- An entry of the route table (0-63). -/
abbrev RouteId := Fin 64
/-- A sign panel (0-31). -/
abbrev PanelId := Fin 32
/-- A fan (0-31). -/
abbrev FanId := Fin 32
/-- A lighting group (0-63). -/
abbrev GroupId := Fin 64
/-- A station table entry. Entry `i` is station number `i + 1` of the manual (1-96). -/
abbrev StationId := Fin 96
/-- A bucket, 2 × effective bay level + strict (0-7). -/
abbrev Bucket := Fin 8
/-- An access level (0-3), the lower the more privileged. -/
abbrev AccessLevel := Fin 4

/-- The table `t` with entry `i` replaced by `x`. -/
def put {α : Type} {n : Nat} (t : Vector α n) (i : Fin n) (x : α) : Vector α n :=
  t.set i.val x i.isLt

/-- The table `t` with entry `i` changed by `f`. -/
def modify {α : Type} {n : Nat} (t : Vector α n) (i : Fin n) (f : α → α) : Vector α n :=
  put t i (f (t.get i))

/-- The station number of an entry (1-96). -/
def stationNumber (i : StationId) : Nat := i.val + 1

end Sys2Proof
end

