-- ==== Sys2Proof/Syntax.lean ====
section
/-!
DEFINITION. The commands of the KQ480: one constructor for each row of spec/opcode_table.json, with
the operands the rules give the row. The table gives its rows no bits.
-/

namespace Sys2Proof

/-- A bay address L.R.P: level 0-7, row 0-31, position 0-63 (chapter 0, section 5.2). -/
structure Addr where
  level : LevelId
  row   : Fin 32
  pos   : Fin 64
  deriving DecidableEq, Repr

/-- A segment of the Field Loop, coded A 0, B 1. -/
abbrev Seg := Fin 2

/-- The error kinds of a reply that begins and fails (R169). -/
inductive LineErrorKind where
  | parity | framing | check | length
  deriving DecidableEq, Repr

/-- The commands. A request row is the event in which a good frame of that request completes on the
Supervisor Link: `tag` is the frame's TAG and `payload` its payload bytes (log entry 1). -/
inductive Instr where
  /-- POWER_RESET: RESET_N held low and released, with the bit rate straps LRS1 and LRS0 sampled. -/
  | powerReset (lrs1 lrs0 : Bool)
  /-- LINK_BYTE: a byte arrives on SRXD; `stopOk` says its stop bit is correct. -/
  | linkByte (b : Byte) (stopOk : Bool)
  /-- GAP: 10 ms have run out after a byte inside a frame. -/
  | gap
  /-- UNKNOWN_KIND: a good frame whose KIND is no request code. -/
  | unknownKind (kind tag : Byte) (payload : List Byte)
  /-- FRAME_TRANSMIT_END: the transmitter finishes the frame it is sending. -/
  | frameTransmitEnd
  | setCursor (tag : Byte) (payload : List Byte)
  | loadSlots (tag : Byte) (payload : List Byte)
  | readSlots (tag : Byte) (payload : List Byte)
  | probeBay (tag : Byte) (payload : List Byte)
  | sweepRow (tag : Byte) (payload : List Byte)
  | writeLevel (tag : Byte) (payload : List Byte)
  | writeRow (tag : Byte) (payload : List Byte)
  | setWindow (tag : Byte) (payload : List Byte)
  | defineZone (tag : Byte) (payload : List Byte)
  | defineFan (tag : Byte) (payload : List Byte)
  | defineGroup (tag : Byte) (payload : List Byte)
  | definePanel (tag : Byte) (payload : List Byte)
  | defineRoute (tag : Byte) (payload : List Byte)
  | defineLane (tag : Byte) (payload : List Byte)
  | defineStation (tag : Byte) (payload : List Byte)
  | defineSegment (tag : Byte) (payload : List Byte)
  | start (tag : Byte) (payload : List Byte)
  /-- STOP_HOLD: Stop with the form byte HOLD. -/
  | stopHold (tag : Byte)
  /-- STOP_SAFE: Stop with the form byte SAFE. -/
  | stopSafe (tag : Byte)
  | restart (tag : Byte) (payload : List Byte)
  | readStatus (tag : Byte) (payload : List Byte)
  | readZone (tag : Byte) (payload : List Byte)
  | readFan (tag : Byte) (payload : List Byte)
  | readGroup (tag : Byte) (payload : List Byte)
  | readLane (tag : Byte) (payload : List Byte)
  | listHolds (tag : Byte) (payload : List Byte)
  | setProgramme (tag : Byte) (payload : List Byte)
  | beginPurge (tag : Byte) (payload : List Byte)
  | endPurge (tag : Byte) (payload : List Byte)
  | closeZone (tag : Byte) (payload : List Byte)
  | openZone (tag : Byte) (payload : List Byte)
  | forceGroup (tag : Byte) (payload : List Byte)
  | clearFanFault (tag : Byte) (payload : List Byte)
  | setSupply (tag : Byte) (payload : List Byte)
  | setSegmentMode (tag : Byte) (payload : List Byte)
  | beginLoopTest (tag : Byte) (payload : List Byte)
  | abortLoopTest (tag : Byte) (payload : List Byte)
  | readLoopResult (tag : Byte) (payload : List Byte)
  | readSegmentErrors (tag : Byte) (payload : List Byte)
  | setNoticeMask (tag : Byte) (payload : List Byte)
  /-- RECOUNT_ROW_STEP: the scanning recount takes its next row. -/
  | recountRowStep
  /-- FIELD_FRAME_SENT: the request frame of the segment's exchange has been sent. -/
  | fieldFrameSent (seg : Seg)
  /-- FIELD_GOOD_REPLY: a complete frame with correct bytes and CRC, the addressed line address and
  the request's code arrives, carrying `payload`. -/
  | fieldGoodReply (seg : Seg) (payload : List Byte)
  /-- FIELD_LINE_ERROR: a reply begins and fails with `kind`, `received` having arrived. -/
  | fieldLineError (seg : Seg) (kind : LineErrorKind) (received : List Byte)
  /-- FIELD_BYTE_GAP: more than 2 ms pass after the bytes `received` of an incomplete reply. -/
  | fieldByteGap (seg : Seg) (received : List Byte)
  /-- FIELD_TIMEOUT: no byte of a reply has arrived 8 ms after the request. -/
  | fieldTimeout (seg : Seg)
  | stalenessExpiry (station : StationId)
  | probeTimerExpiry (station : StationId)
  /-- BAY_DISAGREE: the disagree timer of the bay whose own address is `bay` expires. -/
  | bayDisagree (bay : Addr)
  /-- EXPIRED: the expiry timer of a hold runs out. -/
  | expired (hold : HoldId)
  | holdOffExpiry (panel : PanelId)
  | zoneEvaluation (zone : ZoneId)
  | minPurgeExpiry (zone : ZoneId)
  | purgeDurationExpiry (zone : ZoneId)
  | rampTimerExpiry (fan : FanId)
  | startTimerExpiry (fan : FanId)
  | stopTimerExpiry (fan : FanId)
  | presenceTimerExpiry (group : GroupId)
  | fadeTimerExpiry (group : GroupId)
  deriving DecidableEq, Repr

end Sys2Proof
end

