-- ==== Sys2Proof/Config.lean ====
section
/-!
DEFINITION. What the manual fixes as a constant of the part (its timer lengths), and the free values
it leaves open.
-/

namespace Sys2Proof.Config

/-- FREE VALUE (log entry 6). A byte of a reply for which the manual keeps a place and states no
value: `freeByte d k` is the `k`-th such byte of the reply drawn with counter `d`. -/
opaque freeByte : Nat → Nat → Byte

/-- The disagree timer, 60 s (R34), in ms as every length here. -/
def disagreeMs : Nat := 60000
/-- A COUNT panel's hold-off timer, 5 s (R88). -/
def holdOffMs : Nat := 5000
/-- A fan's start timer, 30 s (R127). -/
def fanStartMs : Nat := 30000
/-- A fan's stop timer, 60 s (R127). -/
def fanStopMs : Nat := 60000
/-- A fan's ramp timer, 2 s (R130). -/
def rampMs : Nat := 2000
/-- A group's fade timer, 1 s (R147). -/
def fadeMs : Nat := 1000
/-- A station's staleness timer, 30 s (R165). -/
def stalenessMs : Nat := 30000
/-- A LOST station's probe timer, 10 s (R165). -/
def probeMs : Nat := 10000
/-- The reply window of an exchange, 8 ms (R169). -/
def replyMs : Nat := 8
/-- The longest gap between two bytes of a link frame, 10 ms (R181). -/
def linkGapMs : Nat := 10
/-- What the clock advances by in one step on an empty queue, 1 ms. DESIGN CHOICE (log entry 2). -/
def tickMs : Nat := 1

end Sys2Proof.Config
end

