-- ==== Sys2Proof/Machine/State.lean ====
section
/-!
DEFINITION. Everything the spec gives the KQ480 to hold, as plain data, and its value after a power
reset. INVENTORY.md lists each piece with its rule and its reset value. Timers are held as the
instant of their expiry, `none` while stopped (log entry 3).
-/

namespace Sys2Proof.Machine

/-- The part states (R186). -/
inductive PartState where
  | config | starting | run | stopping
  deriving DecidableEq, Repr

/-! ### Bay Map -/

/-- A level record (R1). -/
structure Level where
  present : Bool
  closed  : Bool
  rl      : AccessLevel
  visited : Bool
  deriving DecidableEq, Repr

/-- A row entry (R2). -/
structure Row where
  table   : Option TableId
  closed  : Bool
  rl      : AccessLevel
  visited : Bool
  deriving DecidableEq, Repr

/-- A bay's occupancy, and a known or unknown input state (R5). -/
inductive Occ where
  | free | occupied | unknown
  deriving DecidableEq, Repr

/-- A counted-as (R24). -/
structure CountedAs where
  zone   : ZoneId
  bucket : Bucket
  isOpen : Bool
  state  : Occ
  deriving DecidableEq, Repr

/-- A bay record (R5, R24, R34). `primary` is `none` when no input is bound to the bay's address;
`secondary` is `none` while it is absent. -/
structure Bay where
  zone          : ZoneId
  bl            : AccessLevel
  strict        : Bool
  closed        : Bool
  group         : Option GroupId
  primary       : Option Occ
  secondary     : Option Occ
  occ           : Occ
  disagree      : Bool
  disagreeTimer : Option Nat
  aliasIn       : Fin 2
  visited       : Bool
  changed       : Bool
  counted       : CountedAs
  shadow        : CountedAs
  deriving DecidableEq, Repr

/-- A slot of a bay table (R4). -/
inductive Slot where
  | empty
  | bay (b : Bay)
  | aliasTo (target : Addr)
  deriving DecidableEq, Repr

/-- The action of an overlay window (R10). -/
inductive WindowAction where
  | close | level
  deriving DecidableEq, Repr

/-- An overlay window (R10). -/
structure Window where
  enabled : Bool
  base    : BitVec 14
  mask    : BitVec 14
  action  : WindowAction
  level   : AccessLevel
  deriving DecidableEq, Repr

/-- A zone count block, live or shadow (R36). -/
structure CountBlock where
  total    : Nat
  opened   : Nat
  occupied : Nat
  unknown  : Nat
  free     : Vector Nat 8
  deriving DecidableEq, Repr

/-- The recount (R25): the scan cursor names the next row to be scanned. -/
inductive Recount where
  | idle
  | scanning (cursor : RowKey) (restarts : Nat)
  deriving DecidableEq, Repr

/-! ### Zones -/

/-- The six thresholds of one gas (R98). -/
structure Ladder where
  low      : Nat
  high     : Nat
  advisory : Nat
  alarm    : Nat
  clear    : Nat
  peak     : Nat
  deriving DecidableEq, Repr

/-- A base programme (R109). -/
inductive Programme where
  | auto | night | manual
  deriving DecidableEq, Repr

/-- A zone profile, fields 1-24 of R98. -/
structure Profile where
  co             : Ladder
  no2            : Ladder
  period         : Nat
  minPurge       : Nat
  autoFloor      : Nat
  nightFloor     : Nat
  nightCeiling   : Nat
  startThreshold : Nat
  stopThreshold  : Nat
  blindDemand    : Nat
  trafficGain    : Nat
  holdTime       : Nat
  programme      : Programme
  manualValue    : Nat
  deriving DecidableEq, Repr

/-- A zone's closure cause set (R47). -/
structure Causes where
  commanded    : Bool
  purge        : Bool
  unventilated : Bool
  deriving DecidableEq, Repr

/-- A zone's guidance state (R47). -/
inductive Guidance where
  | opened | advisory | closed
  deriving DecidableEq, Repr

/-- A zone's air record (R101): averages in sixteenths of the gas unit. -/
structure Air where
  seeded    : Bool
  aCo       : Nat
  lCo       : Nat
  aNo2      : Nat
  lNo2      : Nat
  advisory  : Bool
  alarm     : Bool
  clear     : Bool
  evaluated : Bool
  deriving DecidableEq, Repr

/-- The cause of a purge (R109). -/
inductive PurgeCause where
  | gas | commanded
  deriving DecidableEq, Repr

/-- A zone's overlay (R109). -/
inductive Overlay where
  | none | blind | purge (cause : PurgeCause)
  deriving DecidableEq, Repr

/-- A zone's ventilation record (R109). -/
structure Vent where
  base          : Programme
  manualValue   : Nat
  overlay       : Overlay
  blindPending  : Bool
  minPurgeTimer : Option Nat
  runOut        : Bool
  durationTimer : Option Nat
  e             : Nat
  m             : Nat
  dCo           : Nat
  dNo2          : Nat
  dTraffic      : Nat
  demand        : Nat
  ventilating   : Bool
  z             : Nat
  evalTimer     : Option Nat
  deriving DecidableEq, Repr

/-- What the part holds of a configured zone (R47, R100, R101, R109). -/
structure Zone where
  profile        : Profile
  pendingProfile : Option Profile
  causes         : Causes
  air            : Air
  vent           : Vent
  deriving DecidableEq, Repr

/-! ### Guidance -/

/-- The direction of a lane (R51). -/
inductive Direction where
  | none | entry | exit
  deriving DecidableEq, Repr

/-- The state of an arrival (R52). -/
inductive ArrivalState where
  | waiting
  | assigned (zone : ZoneId) (bucket : Bucket) (hold : HoldId)
  | noSpace
  deriving DecidableEq, Repr

/-- An arrival record (R52). -/
structure Arrival where
  vl    : AccessLevel
  el    : AccessLevel
  state : ArrivalState
  deriving DecidableEq, Repr

/-- A lane record (R51); the head of the queue is first. -/
structure Lane where
  direction : Direction
  lc        : AccessLevel
  movement  : List ZoneId
  queue     : List Arrival
  deriving DecidableEq, Repr

/-- A hold (R65). `expiry` is its expiry time, at which its running timer ends. -/
structure Hold where
  zone   : ZoneId
  bucket : Bucket
  lane   : LaneId
  route  : RouteId
  groups : List GroupId
  expiry : Nat
  deriving DecidableEq, Repr

/-- A route (R74). -/
structure Route where
  lane   : LaneId
  zone   : ZoneId
  rank   : Nat
  groups : List GroupId
  deriving DecidableEq, Repr

/-! ### Panels -/

/-- The arrow of a ZONE_ARROW field (R77). -/
inductive Arrow where
  | left | right | ahead | rampDown | rampUp
  deriving DecidableEq, Repr

/-- A panel's kind with its configuration (R77). -/
inductive PanelKind where
  | none
  | count (zones : List ZoneId) (mask : BitVec 8)
  | zoneArrow (fields : List (ZoneId × Arrow)) (mask : BitVec 8)
  | lane (lane : LaneId)
  deriving DecidableEq, Repr

/-- What one field of a ZONE_ARROW panel shows (R80). -/
inductive ArrowEntry where
  | arrow (a : Arrow) | full | closed
  deriving DecidableEq, Repr

/-- The content of a panel (R79, R80, R81). -/
inductive Content where
  | countClosed
  | countFull
  | countNumber (n : Nat)
  | arrows (entries : List ArrowEntry)
  | laneBlank
  | laneWait
  | laneFull
  | laneZone (zone : ZoneId) (level : AccessLevel)
  deriving DecidableEq, Repr

/-- A panel's last report (R76). -/
inductive PanelReport where
  | none | busy | ready (tag : Byte)
  deriving DecidableEq, Repr

/-- A panel record (R76). `shown = none` is "unknown". -/
structure Panel where
  kind       : PanelKind
  wanted     : Option Content
  shown      : Option Content
  shownTag   : Option Byte
  inFlight   : Option (Content × Byte)
  lastReport : PanelReport
  holdOff    : Option Nat
  deriving DecidableEq, Repr

/-! ### Fans and lighting groups -/

/-- A fan's state (R127). -/
inductive FanState where
  | stopped | starting | running | stopping | fault | lost
  deriving DecidableEq, Repr

/-- A fan's fault reason (R127). -/
inductive FaultReason where
  | none | startTimeout | stopTimeout | trip | uncommandedStop
  deriving DecidableEq, Repr

/-- A drive's report (R132). -/
inductive DriveReport where
  | stopped | running | tripped
  deriving DecidableEq, Repr

/-- A defined fan (R127). `ramp` is `none` while IDLE and the end of its 2 s while TIMING. -/
structure Fan where
  served     : List ZoneId
  pRated     : Nat
  minSpeed   : Nat
  rampStep   : Nat
  safeSpeed  : Nat
  state      : FanState
  reason     : FaultReason
  target     : Nat
  wanted     : Nat
  command    : Nat
  lastReport : Option DriveReport
  startTimer : Option Nat
  stopTimer  : Option Nat
  ramp       : Option Nat
  deriving DecidableEq, Repr

/-- A lamp report (R137). -/
inductive LampReport where
  | ok | failed
  deriving DecidableEq, Repr

/-- A group's state (R137). -/
inductive GroupState where
  | base | route | presence | forced
  deriving DecidableEq, Repr

/-- A group's level movement (R137). -/
inductive Movement where
  | steady | rising | fading
  deriving DecidableEq, Repr

/-- A defined lighting group (R137). -/
structure Group where
  zone          : ZoneId
  pRated        : Nat
  baseLevel     : Nat
  presenceLevel : Nat
  routeLevel    : Nat
  presenceHold  : Nat
  fadeStep      : Nat
  tolerance     : Nat
  forcedCmd     : Bool
  presenceTimer : Option Nat
  routeCount    : Nat
  lamps         : Vector (Option LampReport) 8
  failedCount   : Nat
  degraded      : Bool
  state         : GroupState
  wanted        : Nat
  commanded     : Nat
  movement      : Movement
  fadeTimer     : Option Nat
  deriving DecidableEq, Repr

/-! ### Supply Limiter -/

/-- The supply mode (R154). -/
inductive SupplyMode where
  | mains | standby
  deriving DecidableEq, Repr

/-- The Supply Limiter (R154, R160, R163). A member of the deferred set is a fan or group whose entry
holds its deferred value. -/
structure Supply where
  mode           : SupplyMode
  limit          : Nat
  base           : Nat
  floor          : Nat
  deferredFans   : Vector (Option Nat) 32
  deferredGroups : Vector (Option Nat) 64
  overLimit      : Bool
  deriving DecidableEq, Repr

/-! ### Field Loop -/

/-- The kind of a station with its bindings (R165). -/
inductive Binding where
  | none
  | gas (zone : ZoneId)
  | bay (inputs : Vector (Option Addr) 16)
  | lane (lane : LaneId)
  | fan (channels : Vector (Option FanId) 4)
  | light (channels : Vector (Option GroupId) 8) (motion : Vector (Option GroupId) 8)
  | sign (panel : PanelId)
  deriving DecidableEq, Repr

/-- A station's state (R165). -/
inductive StationState where
  | disabled | active | suspect | lost
  deriving DecidableEq, Repr

/-- The status a gas head reports (R91). -/
inductive HeadStatus where
  | ok | warmup | fault | cal
  deriving DecidableEq, Repr

/-- A gas head's reading record (R91). -/
structure Reading where
  present   : Bool
  co        : Nat
  no2       : Nat
  status    : HeadStatus
  saturated : Bool
  deriving DecidableEq, Repr

/-- A station table entry (R165), with the reading record that an enabled GAS entry has (R91).
`dirty` is the dirty flag of a FAN or LIGHT output record. -/
structure Station where
  binding     : Binding
  enabled     : Bool
  segment     : Seg
  lineAddress : Nat
  state       : StationState
  firstHad    : Bool
  misses      : Nat
  staleTimer  : Option Nat
  probeTimer  : Option Nat
  probeDue    : Bool
  lastEvent   : Option Byte
  dirty       : Bool
  reading     : Reading
  deriving DecidableEq, Repr

/-- The bit rate of a segment (R167). -/
inductive FieldRate where
  | r9600 | r19200 | r38400
  deriving DecidableEq, Repr

/-- The mode of a segment (R167). -/
inductive SegmentMode where
  | run | quiet | disabled
  deriving DecidableEq, Repr

/-- A first-error capture (R167). -/
structure Capture where
  station : StationId
  kind    : LineErrorKind
  bytes   : List Byte
  deriving DecidableEq, Repr

/-- The kinds of exchange (chapter 9, section 9.3). -/
inductive ExchangeKind where
  | poll | probe | command | test
  deriving DecidableEq, Repr

/-- The exchange a segment is engaged in: the payload `sent`, and the end of the 8 ms reply window,
`none` while the request frame is still being sent (R169). -/
structure Exchange where
  kind    : ExchangeKind
  station : StationId
  sent    : List Byte
  window  : Option Nat
  deriving DecidableEq, Repr

/-- The pattern of a loop test (R176). -/
inductive TestPattern where
  | prbs | fixed (bytes : List Byte)
  deriving DecidableEq, Repr

/-- The outcome of a loop test (R176 to R178). -/
inductive TestOutcome where
  | running | done | aborted
  deriving DecidableEq, Repr

/-- A loop-test result record (R176, R177). -/
structure TestRecord where
  station    : StationId
  pattern    : TestPattern
  frameCount : Nat
  sent       : Nat
  returned   : Nat
  byteErrors : Nat
  timeouts   : Nat
  outcome    : TestOutcome
  deriving DecidableEq, Repr

/-- A segment record (R167, R174, R175). Schedule positions are station numbers, 0 being before the
lowest; `round` is the last lane station polled in a lane round in progress; `prbs` is the shift
register of R177, stage 1 being its bit 0. -/
structure Segment where
  rate          : FieldRate
  mode          : SegmentMode
  errors        : Nat
  capture       : Option Capture
  pollPos       : Nat
  pollCount     : Nat
  round         : Option Nat
  lastCommanded : Nat
  exchange      : Option Exchange
  testRunning   : Bool
  prbs          : BitVec 7
  test          : Option TestRecord
  deriving DecidableEq, Repr

/-! ### Supervisor Link -/

/-- The receiver (R180): `body` holds the body bytes stored so far, and `first` the first check byte
once it has arrived. -/
inductive Receiver where
  | hunt
  | length
  | body (len : Nat) (bytes : List Byte)
  | check (len : Nat) (bytes : List Byte) (first : Option Byte)
  deriving DecidableEq, Repr

/-- The five link error flags (R181). -/
structure LinkFlags where
  framing    : Bool
  length     : Bool
  gap        : Bool
  checkError : Bool
  overrun    : Bool
  deriving DecidableEq, Repr

/-- A frame of the part on STXD: its KIND, TAG and PAYLOAD (R183). -/
structure Frame where
  kind    : Byte
  tag     : Byte
  payload : List Byte
  deriving DecidableEq, Repr

/-- The notice kinds (R184). -/
inductive NoticeKind where
  | zoneAlarm | zoneState | stationState | fanFault | lampFault | laneOverflow
  | bayDisagree | supplyOver | recountDone | testDone | started | stopped
  deriving DecidableEq, Repr

/-- An entry of the pending notice set (R184), its data as the bytes of the notice payload. -/
structure Notice where
  kind    : NoticeKind
  subject : Nat
  data    : List Byte
  deriving DecidableEq, Repr

/-- The link's bit rate (chapter 0, section 7). -/
inductive LinkRate where
  | r57600 | r115200 | r230400
  deriving DecidableEq, Repr

/-- The Supervisor Link (R180 to R185). A request is in hand exactly while `waiting` is present. Bit
`k - 1` of `mask` enables the notice kind of code `k`. -/
structure Link where
  receiver : Receiver
  flags    : LinkFlags
  gapTimer : Option Nat
  tx       : Option Frame
  waiting  : Option Frame
  notices  : List Notice
  mask     : BitVec 12
  rate     : LinkRate
  deriving DecidableEq, Repr

/-! ### The machine -/

/-- The whole state of the KQ480. `now`, `draws` and `pending` are the model's own (log entries 2, 3
and 6): the clock in ms, the counter of free bytes, and the commands waiting to be taken. -/
structure State where
  part      : PartState
  levels    : Vector Level 8
  rows      : Vector Row 256
  tables    : Vector (Vector Slot 64) 64
  windows   : Vector Window 2
  cursor    : Option Addr
  recount   : Recount
  shadow    : Vector CountBlock 24
  live      : Vector CountBlock 24
  zones     : Vector (Option Zone) 24
  lanes     : Vector Lane 8
  holds     : Vector (Option Hold) 128
  holdOrder : List HoldId
  routes    : Vector (Option Route) 64
  panels    : Vector Panel 32
  fans      : Vector (Option Fan) 32
  groups    : Vector (Option Group) 64
  supply    : Supply
  stations  : Vector Station 96
  segments  : Vector Segment 2
  link      : Link
  now       : Nat
  draws     : Nat
  pending   : List Instr
  deriving DecidableEq, Repr

/-- Why the machine stops with a fault: the spec gives the part no event that stops it, so the model
has no fault at all (INVENTORY.md, Faults). -/
inductive Fault where
  deriving DecidableEq, Repr

/-- Why a command has no meaning. -/
inductive Refusal where
  /-- Raised by an arm of `exec` whose row has no meaning yet, with the row's mnemonic. Safe: the
  model stops. No arm raises it now. -/
  | notModelled (mnemonic : String)
  deriving DecidableEq, Repr

/-! ### Reset values -/

/-- A level record at a power reset (R1). -/
def Level.reset : Level := ⟨false, false, 3, false⟩
/-- A row entry at a power reset (R2). -/
def Row.reset : Row := ⟨none, false, 3, false⟩
/-- A bay table at a power reset: every slot EMPTY (R3). -/
def tableReset : Vector Slot 64 := Vector.replicate 64 .empty
/-- An overlay window at a power reset (R10). -/
def Window.reset : Window := ⟨false, 0, 0, .close, 3⟩
/-- A count block with every field 0 (R36). -/
def CountBlock.zero : CountBlock := ⟨0, 0, 0, 0, Vector.replicate 8 0⟩
/-- A lane record at a power reset (R51, R52; LC by log entry 9). -/
def Lane.reset : Lane := ⟨.none, 0, [], []⟩
/-- A panel record at a power reset (R76). -/
def Panel.reset : Panel := ⟨.none, none, none, none, none, .none, none⟩
/-- A new reading record (R91). -/
def Reading.new : Reading := ⟨false, 0, 0, .fault, false⟩
/-- A station table entry at a power reset (R165; log entry 9). -/
def Station.reset : Station :=
  { binding := .none, enabled := false, segment := 0, lineAddress := 0, state := .disabled,
    firstHad := false, misses := 0, staleTimer := none, probeTimer := none, probeDue := false,
    lastEvent := none, dirty := false, reading := Reading.new }
/-- A segment record at a power reset (R167; schedule positions by log entry 9). -/
def Segment.reset : Segment :=
  { rate := .r9600, mode := .quiet, errors := 0, capture := none, pollPos := 0, pollCount := 0,
    round := none, lastCommanded := 0, exchange := none, testRunning := false,
    prbs := BitVec.allOnes 7, test := none }
/-- The Supply Limiter at a power reset (R154). -/
def Supply.reset : Supply :=
  { mode := .mains, limit := 0, base := 0, floor := 20, deferredFans := Vector.replicate 32 none,
    deferredGroups := Vector.replicate 64 none, overLimit := false }
/-- The link error flags all clear (R181). -/
def LinkFlags.clear : LinkFlags := ⟨false, false, false, false, false⟩
/-- The Supervisor Link at a power reset (R180 to R185), with the bit rate the straps give. -/
def Link.reset (rate : LinkRate) : Link :=
  { receiver := .hunt, flags := LinkFlags.clear, gapTimer := none, tx := none, waiting := none,
    notices := [], mask := BitVec.allOnes 12, rate := rate }

/-- The KQ480 right after a power reset, with both straps read as 0 (log entry 8). -/
def State.reset : State :=
  { part := .config
    levels := Vector.replicate 8 Level.reset
    rows := Vector.replicate 256 Row.reset
    tables := Vector.replicate 64 tableReset
    windows := Vector.replicate 2 Window.reset
    cursor := some ⟨0, 0, 0⟩
    recount := .idle
    shadow := Vector.replicate 24 CountBlock.zero
    live := Vector.replicate 24 CountBlock.zero
    zones := Vector.replicate 24 none
    lanes := Vector.replicate 8 Lane.reset
    holds := Vector.replicate 128 none
    holdOrder := []
    routes := Vector.replicate 64 none
    panels := Vector.replicate 32 Panel.reset
    fans := Vector.replicate 32 none
    groups := Vector.replicate 64 none
    supply := Supply.reset
    stations := Vector.replicate 96 Station.reset
    segments := Vector.replicate 2 Segment.reset
    link := Link.reset .r57600
    now := 0
    draws := 0
    pending := [] }

end Sys2Proof.Machine
end

