-- ==== Sys2Proof/Machine/Operands.lean ====
section
/-!
DEFINITION. The operands of requests and the bytes of replies: payload fields (spec/10 section 10.7),
the codes of 10.7, linear addresses (chapter 0, section 5.2) and the CRC-16 of R180.
-/

namespace Sys2Proof

/-! ### Numbers and bytes -/

/-- The byte of a number; numbers above 255 do not occur in a reply's one-byte fields. -/
def byte (n : Nat) : Byte := BitVec.ofNat 8 n

/-- A number in 2 bytes, high byte first. -/
def bytes2 (n : Nat) : List Byte := [byte (n / 256), byte n]

/-- A number in 3 bytes, high byte first. -/
def bytes3 (n : Nat) : List Byte := [byte (n / 65536), byte (n / 256), byte n]

/-- A whole number in 3 bytes, two's complement (the headroom of Read Status). -/
def bytes3Int (i : Int) : List Byte := bytes3 (BitVec.ofInt 24 i).toNat

/-- A flag as the byte 0 or 1. -/
def flagByte (b : Bool) : Byte := if b then 1 else 0

/-- A flag as a number of weight `w`. -/
def bitIf (b : Bool) (w : Nat) : Nat := if b then w else 0

/-- The payload byte at place `i` as a number. -/
def u8 (p : List Byte) (i : Nat) : Nat := (p.getD i 0).toNat

/-- The two payload bytes at place `i` as a number, high byte first. -/
def u16 (p : List Byte) (i : Nat) : Nat := u8 p i * 256 + u8 p (i + 1)

/-- The number `k` as an index below `n`, reduced when it is not below (a field is judged for RANGE
before it is used). -/
def toFin (n : Nat) [NeZero n] (k : Nat) : Fin n := Fin.ofNat n k

/-- A field in which 255 means none. -/
def toFinOpt (n : Nat) [NeZero n] (k : Nat) : Option (Fin n) := if k = 255 then none else some (toFin n k)

/-- The byte of a field in which 255 means none. -/
def optByte {n : Nat} : Option (Fin n) → Byte
  | some i => byte i.val
  | none => 255

/-! ### Addresses -/

/-- The row entry of an address. -/
def Addr.rowKey (a : Addr) : RowKey := ⟨a.level.val * 32 + a.row.val, by omega⟩

/-- The linear form L × 2048 + R × 64 + P (chapter 0, section 5.2). -/
def Addr.linear (a : Addr) : Nat := a.level.val * 2048 + a.row.val * 64 + a.pos.val

/-- The address of a linear form below 16,384. -/
def Addr.ofLinear (n : Nat) : Addr := ⟨toFin 8 (n / 2048), toFin 32 (n / 64), toFin 64 n⟩

/-- The address that follows in address order, `none` for "at end" (R15). -/
def Addr.next (a : Addr) : Option Addr :=
  if a.linear + 1 < 16384 then some (Addr.ofLinear (a.linear + 1)) else none

/-- The address of position `p` of row `k`. -/
def Addr.ofRow (k : RowKey) (p : Fin 64) : Addr := ⟨toFin 8 (k.val / 32), toFin 32 k.val, p⟩

/-- An address in 3 bytes L, R, P. -/
def Addr.bytes (a : Addr) : List Byte := [byte a.level.val, byte a.row.val, byte a.pos.val]

def LineErrorKind.code : LineErrorKind → Nat
  | .parity => 1 | .framing => 2 | .check => 3 | .length => 4

end Sys2Proof

namespace Sys2Proof.Machine

/-- The map cursor in 3 bytes, 255 in each at end. -/
def cursorBytes : Option Addr → List Byte
  | some a => a.bytes
  | none => [255, 255, 255]

/-- The three bytes at place `i` form an address in range. -/
def addrInRange (p : List Byte) (i : Nat) : Bool :=
  u8 p i ≤ 7 && u8 p (i + 1) ≤ 31 && u8 p (i + 2) ≤ 63

/-- The three bytes at place `i` are 255 each: no address. -/
def addrIsNone (p : List Byte) (i : Nat) : Bool :=
  u8 p i == 255 && u8 p (i + 1) == 255 && u8 p (i + 2) == 255

/-- The address at place `i`. -/
def addrAt (p : List Byte) (i : Nat) : Addr :=
  ⟨toFin 8 (u8 p i), toFin 32 (u8 p (i + 1)), toFin 64 (u8 p (i + 2))⟩

/-! ### CRC-16 (R180) -/

/-- One bit of the CRC-16 with polynomial 0x1021. -/
def crcBit (c : BitVec 16) : BitVec 16 :=
  if c.msb then (c <<< 1) ^^^ 0x1021 else c <<< 1

/-- One byte of the CRC-16, most significant bit first. -/
def crcByte (c : BitVec 16) (b : Byte) : BitVec 16 :=
  let x := c ^^^ ((b.zeroExtend 16) <<< 8)
  crcBit (crcBit (crcBit (crcBit (crcBit (crcBit (crcBit (crcBit x)))))))

/-- The CRC-16 of a run of bytes, initial value 0xFFFF and no final inversion. -/
def crc16 (bs : List Byte) : BitVec 16 := bs.foldl crcByte 0xFFFF

/-- The check bytes, high byte first. -/
def crcBytes (bs : List Byte) : List Byte :=
  let c := crc16 bs
  [c.extractLsb' 8 8, c.extractLsb' 0 8]

/-! ### Codes -/

def PartState.code : PartState → Nat
  | .config => 0 | .starting => 1 | .run => 2 | .stopping => 3

def StationState.code : StationState → Nat
  | .disabled => 0 | .active => 1 | .suspect => 2 | .lost => 3

def FanState.code : FanState → Nat
  | .stopped => 0 | .starting => 1 | .running => 2 | .stopping => 3 | .fault => 4 | .lost => 5

def FaultReason.code : FaultReason → Nat
  | .none => 0 | .startTimeout => 1 | .stopTimeout => 2 | .trip => 3 | .uncommandedStop => 4

/-- Occupancy and counted state, as in the slot descriptor. -/
def Occ.code : Occ → Nat
  | .free => 0 | .occupied => 1 | .unknown => 2

/-- The input states of a BAY_DISAGREE notice, with the codes of the reported values (log entry 32). -/
def inputCode : Option Occ → Nat
  | some o => o.code
  | none => 3

def Programme.code : Programme → Nat
  | .auto => 0 | .night => 1 | .manual => 2

/-- The programme of a code 0, 1 or 2 (a code above 2 is refused before it is used). -/
def Programme.ofCode : Nat → Programme
  | 0 => .auto | 1 => .night | _ => .manual

def Guidance.code : Guidance → Nat
  | .opened => 0 | .advisory => 1 | .closed => 2

def PurgeCause.code : PurgeCause → Nat
  | .gas => 0 | .commanded => 1

def Overlay.code : Overlay → Nat
  | .none => 0 | .blind => 1 | .purge _ => 2

def Direction.code : Direction → Nat
  | .none => 0 | .entry => 1 | .exit => 2

def Direction.ofCode : Nat → Direction
  | 1 => .entry | 2 => .exit | _ => .none

def Arrow.code : Arrow → Nat
  | .left => 0 | .right => 1 | .ahead => 2 | .rampDown => 3 | .rampUp => 4

def Arrow.ofCode : Nat → Arrow
  | 0 => .left | 1 => .right | 2 => .ahead | 3 => .rampDown | _ => .rampUp

def DriveReport.code : DriveReport → Nat
  | .stopped => 0 | .running => 1 | .tripped => 2

/-- The drive report of a code 0, 1 or 2 (another code is a line error, R169). -/
def DriveReport.ofCode : Nat → DriveReport
  | 0 => .stopped | 1 => .running | _ => .tripped

def LampReport.code : Option LampReport → Nat
  | none => 0 | some .ok => 1 | some .failed => 2

def GroupState.code : GroupState → Nat
  | .base => 0 | .route => 1 | .presence => 2 | .forced => 3

def Movement.code : Movement → Nat
  | .steady => 0 | .rising => 1 | .fading => 2

def SupplyMode.code : SupplyMode → Nat
  | .mains => 0 | .standby => 1

def SegmentMode.code : SegmentMode → Nat
  | .run => 0 | .quiet => 1 | .disabled => 2

def SegmentMode.ofCode : Nat → SegmentMode
  | 0 => .run | 1 => .quiet | _ => .disabled

def FieldRate.code : FieldRate → Nat
  | .r9600 => 0 | .r19200 => 1 | .r38400 => 2

def FieldRate.ofCode : Nat → FieldRate
  | 0 => .r9600 | 1 => .r19200 | _ => .r38400

def HeadStatus.code : HeadStatus → Nat
  | .ok => 0 | .warmup => 1 | .fault => 2 | .cal => 3

/-- The status a GAS reply's code is recorded as: a code that is none of the four is FAULT (R92). -/
def HeadStatus.ofCode : Nat → HeadStatus
  | 0 => .ok | 1 => .warmup | 3 => .cal | _ => .fault

def TestOutcome.code : TestOutcome → Nat
  | .running => 0 | .done => 1 | .aborted => 2

def ExchangeKind.code : ExchangeKind → Nat
  | .poll => 1 | .probe => 1 | .command => 2 | .test => 3

/-- The code of a notice kind (R184). -/
def NoticeKind.code : NoticeKind → Nat
  | .zoneAlarm => 1 | .zoneState => 2 | .stationState => 3 | .fanFault => 4 | .lampFault => 5
  | .laneOverflow => 6 | .bayDisagree => 7 | .supplyOver => 8 | .recountDone => 9 | .testDone => 10
  | .started => 11 | .stopped => 12

/-- The input state a reported value is taken as (R29). -/
def Occ.ofReport : Nat → Occ
  | 0 => .free | 1 => .occupied | _ => .unknown

/-! ### Profiles (R98) -/

def Ladder.fields (l : Ladder) : List Nat := [l.low, l.high, l.advisory, l.alarm, l.clear, l.peak]

/-- Fields 1-24 of a profile, in the order of R98. -/
def Profile.fields (p : Profile) : List Nat :=
  p.co.fields ++ p.no2.fields ++
  [p.period, p.minPurge, p.autoFloor, p.nightFloor, p.nightCeiling, p.startThreshold, p.stopThreshold,
   p.blindDemand, p.trafficGain, p.holdTime, p.programme.code, p.manualValue]

/-- The profile whose fields 1-24 `f` gives. -/
def Profile.ofFields (f : Nat → Nat) : Profile :=
  { co := ⟨f 1, f 2, f 3, f 4, f 5, f 6⟩
    no2 := ⟨f 7, f 8, f 9, f 10, f 11, f 12⟩
    period := f 13, minPurge := f 14, autoFloor := f 15, nightFloor := f 16, nightCeiling := f 17
    startThreshold := f 18, stopThreshold := f 19, blindDemand := f 20, trafficGain := f 21
    holdTime := f 22, programme := Programme.ofCode (f 23), manualValue := f 24 }

/-- The default profile (R98). -/
def Profile.default : Profile :=
  { co := ⟨25, 100, 50, 150, 75, 400⟩
    no2 := ⟨10, 50, 30, 80, 40, 150⟩
    period := 10, minPurge := 600, autoFloor := 10, nightFloor := 0, nightCeiling := 60
    startThreshold := 15, stopThreshold := 8, blindDemand := 50, trafficGain := 6
    holdTime := 180, programme := .auto, manualValue := 0 }

/-- Two field bytes for each of fields 1-24. -/
def Profile.bytes (p : Profile) : List Byte := p.fields.flatMap bytes2

/-! ### Panel content on the line (SIGN command content) -/

def ArrowEntry.code : ArrowEntry → Nat
  | .arrow a => a.code | .full => 5 | .closed => 6

/-- The kind byte and the four content bytes of a SIGN command. -/
def Content.bytes : Content → List Byte
  | .countClosed => [1, 255, 255, 0, 0]
  | .countFull => [1, 0, 0, 0, 0]
  | .countNumber n => [1] ++ bytes2 n ++ [0, 0]
  | .arrows es => [2] ++ ((es.map fun e : ArrowEntry => byte e.code) ++ [255, 255, 255, 255]).take 4
  | .laneBlank => [3, 0, 0, 0, 0]
  | .laneWait => [3, 1, 0, 0, 0]
  | .laneFull => [3, 2, 0, 0, 0]
  | .laneZone z l => [3, 3, byte z.val, byte l.val, 0]

/-! ### Link frames (spec/10 section 10.7) -/

/-- The bytes of a link frame: SYNC, LEN, KIND, TAG, PAYLOAD, CHECK. -/
def Frame.bytes (f : Frame) : List Byte :=
  let counted := [byte (f.payload.length + 2), f.kind, f.tag] ++ f.payload
  [0xA5] ++ counted ++ crcBytes counted

/-- The bytes of a Field Loop frame. -/
def fieldFrame (address code : Nat) (payload : List Byte) : List Byte :=
  let counted := [byte address, byte code, byte payload.length] ++ payload
  counted ++ crcBytes counted

end Sys2Proof.Machine
end

