-- ==== Sys2Proof/Machine/Flags.lean ====
section
/-!
DEFINITION. The flags of the Supervisor Link (R181, R185) and the flag bytes of reports (spec/10
section 10.7).
-/

namespace Sys2Proof.Machine

def LinkFlags.setFraming (f : LinkFlags) : LinkFlags := { f with framing := true }
def LinkFlags.setLength (f : LinkFlags) : LinkFlags := { f with length := true }
def LinkFlags.setGap (f : LinkFlags) : LinkFlags := { f with gap := true }
def LinkFlags.setCheckError (f : LinkFlags) : LinkFlags := { f with checkError := true }
def LinkFlags.setOverrun (f : LinkFlags) : LinkFlags := { f with overrun := true }

/-- The flag byte of Read Status. -/
def LinkFlags.toByte (f : LinkFlags) : Byte :=
  byte (bitIf f.framing 1 + bitIf f.length 2 + bitIf f.gap 4 + bitIf f.checkError 8 + bitIf f.overrun 16)

/-- The notice kind is enabled in the mask: bit `k - 1` for the kind of code `k` (R185). -/
def Link.enabled (l : Link) (k : NoticeKind) : Bool := l.mask.getLsbD (k.code - 1)

/-- The cause set of Read Zone and of ZONE_STATE. -/
def Causes.toByte (c : Causes) : Byte :=
  byte (bitIf c.commanded 1 + bitIf c.purge 2 + bitIf c.unventilated 4)

/-- No cause is held (R47). -/
def Causes.isEmpty (c : Causes) : Bool := !c.commanded && !c.purge && !c.unventilated

/-- The guidance state of a cause set and an advisory flag (R47). -/
def guidanceOf (c : Causes) (advisory : Bool) : Guidance :=
  if c.isEmpty then (if advisory then .advisory else .opened) else .closed

/-- A zone's guidance state (R47). -/
def Zone.guidance (z : Zone) : Guidance := guidanceOf z.causes z.air.advisory

/-- A lamp or motion bit of a LIGHT reply: one bit each from channel or input 0 (10.7). That channel or input 0 is the
least significant bit is the model's choice: log entry 49. -/
def bitAt (b : Byte) (i : Fin 8) : Bool := b.getLsbD i.val

/-- A bit mask over channels or inputs 0-7, as a byte (10.7). That channel or input 0 is the least significant bit is
the model's choice: log entry 49. -/
def maskByte (f : Fin 8 → Bool) : Byte :=
  byte (((List.finRange 8).map fun i => bitIf (f i) (2 ^ i.val)).sum)

end Sys2Proof.Machine
end

