-- ==== Sys2Proof/Machine/Ops.lean ====
section
/-!
DEFINITION. The event: what one step gathers while it works (`Ev`), and the operations every unit
shares: raising a notice (R184), queueing a reply and starting a frame (R182, R183), judging a
request's checks in order (R182).

A step is one event. Its units act in the order the rules give, and some work waits for the end of
the event: heads are assigned after every release (R64, R71), groups are derived after the guidance
and ventilation work (R142), panels after all of it (R78), notices join the set at the end (R184).
`Ev` holds what is still to be done; Machine/Finish.lean does it.
-/

namespace Sys2Proof.Machine

/-- A step in progress: the state so far and the work left for the end of the event. -/
structure Ev where
  /-- The state as the work done so far leaves it. -/
  s : State
  /-- Notices newly made in this event, in the order they will join the set (R184). -/
  fresh : List Notice
  /-- Lanes whose head is to be assigned (R61, R64). -/
  assign : List LaneId
  /-- The NO_SPACE heads are to be retried (R64). -/
  retry : Bool
  /-- Groups to be derived (R142). -/
  groups : List GroupId
  /-- Groups whose driver has returned (R150). -/
  resume : List GroupId
  /-- Fans whose ramp conditions may have come to hold (R130). -/
  fans : List FanId
  /-- Zones whose COUNT and ZONE_ARROW panels are to be derived (R78). -/
  panelZones : List ZoneId
  /-- Lanes whose LANE panel is to be derived (R78). -/
  panelLanes : List LaneId
  /-- Every defined panel is to be derived (R78). -/
  panelsAll : Bool
  /-- Segments that choose their next exchange, and whether a poll or probe has just ended (R174). -/
  sched : List (Seg × Bool)
  /-- The condition of R187 is judged in this event. -/
  judgeRun : Bool
  /-- The condition of R189 is judged in this event. -/
  judgeStop : Bool
  /-- The part has entered CONFIG in this event (R190). -/
  enteredConfig : Bool

/-- The event that begins in state `s` with nothing to be done. -/
def Ev.begin (s : State) : Ev :=
  { s := s, fresh := [], assign := [], retry := false, groups := [], resume := [], fans := [],
    panelZones := [], panelLanes := [], panelsAll := false, sched := [], judgeRun := false,
    judgeStop := false, enteredConfig := false }

/-- The list with `x` in it once. -/
def addOnce {α : Type} [BEq α] (l : List α) (x : α) : List α := if l.contains x then l else l ++ [x]

/-- The event with its state changed by `f`. -/
def Ev.mapS (e : Ev) (f : State → State) : Ev := { e with s := f e.s }

def Ev.markAssign (e : Ev) (l : LaneId) : Ev := { e with assign := addOnce e.assign l }
def Ev.markRetry (e : Ev) : Ev := { e with retry := true }
def Ev.markGroup (e : Ev) (g : GroupId) : Ev := { e with groups := addOnce e.groups g }
def Ev.markResume (e : Ev) (g : GroupId) : Ev := { e with resume := addOnce e.resume g }
def Ev.markFan (e : Ev) (f : FanId) : Ev := { e with fans := addOnce e.fans f }
def Ev.markPanelZone (e : Ev) (z : ZoneId) : Ev := { e with panelZones := addOnce e.panelZones z }
def Ev.markPanelLane (e : Ev) (l : LaneId) : Ev := { e with panelLanes := addOnce e.panelLanes l }
def Ev.markStop (e : Ev) : Ev := { e with judgeStop := true }
def Ev.markRun (e : Ev) : Ev := { e with judgeRun := true }

/-- The clock brought up to the instant at which a timer ran out (log entry 3). -/
def Ev.reach (e : Ev) (deadline : Nat) : Ev := e.mapS fun s => { s with now := max s.now deadline }

/-- The instant `ms` from now. -/
def State.after (s : State) (ms : Nat) : Nat := s.now + ms

/-- The whole seconds that remain to an instant (log entry 5). -/
def State.secondsTo (s : State) (deadline : Nat) : Nat := (deadline - s.now) / 1000

/-- A free byte of the present reply (log entry 6). -/
def State.freeByte (s : State) (k : Nat) : Byte := Config.freeByte s.draws k

/-- A reply that may hold free bytes has been drawn (log entry 6). -/
def Ev.drawn (e : Ev) : Ev := e.mapS fun s => { s with draws := s.draws + 1 }

/-! ### State updates -/

def State.setLink (s : State) (l : Link) : State := { s with link := l }
def State.setZone (s : State) (z : ZoneId) (x : Option Zone) : State := { s with zones := put s.zones z x }
def State.setLane (s : State) (l : LaneId) (x : Lane) : State := { s with lanes := put s.lanes l x }
def State.setHold (s : State) (h : HoldId) (x : Option Hold) : State := { s with holds := put s.holds h x }
def State.setPanel (s : State) (p : PanelId) (x : Panel) : State := { s with panels := put s.panels p x }
def State.setFan (s : State) (f : FanId) (x : Option Fan) : State := { s with fans := put s.fans f x }
def State.setGroup (s : State) (g : GroupId) (x : Option Group) : State := { s with groups := put s.groups g x }
def State.setStation (s : State) (i : StationId) (x : Station) : State := { s with stations := put s.stations i x }
def State.setSegment (s : State) (g : Seg) (x : Segment) : State := { s with segments := put s.segments g x }

/-- The record of a zone changed by `f`, nothing while it is not configured. -/
def State.updZone (s : State) (z : ZoneId) (f : Zone → Zone) : State :=
  match s.zones.get z with
  | some x => s.setZone z (some (f x))
  | none => s

/-- The record of a fan changed by `f`, nothing while it is not defined. -/
def State.updFan (s : State) (i : FanId) (f : Fan → Fan) : State :=
  match s.fans.get i with
  | some x => s.setFan i (some (f x))
  | none => s

/-- The record of a group changed by `f`, nothing while it is not defined. -/
def State.updGroup (s : State) (i : GroupId) (f : Group → Group) : State :=
  match s.groups.get i with
  | some x => s.setGroup i (some (f x))
  | none => s

def State.updPanel (s : State) (i : PanelId) (f : Panel → Panel) : State := s.setPanel i (f (s.panels.get i))
def State.updLane (s : State) (i : LaneId) (f : Lane → Lane) : State := s.setLane i (f (s.lanes.get i))
def State.updStation (s : State) (i : StationId) (f : Station → Station) : State :=
  s.setStation i (f (s.stations.get i))
def State.updSegment (s : State) (i : Seg) (f : Segment → Segment) : State :=
  s.setSegment i (f (s.segments.get i))

/-! ### Notices (R184) -/

/-- The notice's key is that of `n`. -/
def Notice.sameKey (n m : Notice) : Bool := n.kind == m.kind && n.subject == m.subject

/-- The order in which the notices of one event join the set: kind code, then subject. -/
def Notice.before (n m : Notice) : Bool :=
  n.kind.code < m.kind.code || (n.kind.code == m.kind.code && n.subject < m.subject)

/-- A notice put into the notices of one event, in order, replacing one of its key. -/
def insertNotice (n : Notice) : List Notice → List Notice
  | [] => [n]
  | m :: ms =>
    if n.sameKey m then n :: ms
    else if n.before m then n :: m :: ms
    else m :: insertNotice n ms

/-- The set with the data of the entry of `n`'s key replaced. -/
def replaceNotice (n : Notice) (l : List Notice) : List Notice :=
  l.map fun m => if n.sameKey m then n else m

/-- A unit raises a notice (R184). -/
def Ev.raise (e : Ev) (k : NoticeKind) (subject : Nat) (data : List Byte) : Ev :=
  let n : Notice := ⟨k, subject, data⟩
  if !e.s.link.enabled k then e
  else if e.s.link.notices.any n.sameKey then
    e.mapS fun s => s.setLink { s.link with notices := replaceNotice n s.link.notices }
  else { e with fresh := insertNotice n e.fresh }

/-- The notice as a frame: KIND 0x90, TAG 0, kind code, subject and data (R183, section 10.7). -/
def Notice.frame (n : Notice) : Frame := ⟨0x90, 0, [byte n.kind.code] ++ bytes2 n.subject ++ n.data⟩

/-- The newly made notices join the end of the set (R184). -/
def Link.join (l : Link) (fresh : List Notice) : Link := { l with notices := l.notices ++ fresh }

/-! ### Replies and the transmitter (R182, R183) -/

/-- The reasons of a REJECT (R182, section 10.7). -/
inductive Reason where
  | unknownKind | badLength | wrongState | range | noObject | conflict | busy | cursorEnd
  deriving DecidableEq, Repr

def Reason.code : Reason → Nat
  | .unknownKind => 1 | .badLength => 2 | .wrongState => 3 | .range => 4 | .noObject => 5
  | .conflict => 6 | .busy => 7 | .cursorEnd => 8

/-- A refusal: the reason, the field index and the offending value (R182). -/
structure Rejection where
  reason : Reason
  field  : Nat
  value  : Nat
  deriving DecidableEq, Repr

/-- A reply (R182). -/
inductive Reply where
  | done (data : List Byte)
  | accepted
  | reject (r : Rejection)
  deriving DecidableEq, Repr

/-- The reply as a frame that echoes the request's tag. -/
def Reply.frame (tag : Byte) : Reply → Frame
  | .done data => ⟨0x80, tag, data⟩
  | .accepted => ⟨0x81, tag, []⟩
  | .reject r => ⟨0x82, tag, [byte r.reason.code, byte r.field] ++ bytes2 r.value⟩

/-- The transmitter, when idle, starts the waiting reply, or else the oldest pending notice (R183). -/
def Link.pump (l : Link) : Link :=
  match l.tx, l.waiting, l.notices with
  | some _, _, _ => l
  | none, some r, _ => { l with tx := some r, waiting := none }
  | none, none, n :: rest => { l with tx := some n.frame, notices := rest }
  | none, none, [] => l

/-- The reply is placed in the transmit queue (R183); the frame starts at the end of the event. -/
def Ev.queueReply (e : Ev) (tag : Byte) (r : Reply) : Ev :=
  e.mapS fun s => s.setLink { s.link with waiting := some (r.frame tag) }

/-- The first of a request's checks that fails (R182). -/
def firstFail : List (Bool × Rejection) → Option Rejection
  | [] => none
  | (bad, r) :: rest => if bad then some r else firstFail rest

/-- A request judged by its checks in order: refused with the first that fails, with no change, or
else accepted (R182). -/
def judged (checks : List (Bool × Rejection)) (e : Ev) (accept : Reply × Ev) : Reply × Ev :=
  match firstFail checks with
  | some r => (.reject r, e)
  | none => accept

/-- BAD_LENGTH: field 0 and the payload length (R182). -/
def badLength (p : List Byte) (ok : Bool) : Bool × Rejection := (!ok, ⟨.badLength, 0, p.length⟩)

/-- WRONG_STATE: field 0 and the part state (R182). -/
def wrongState (s : State) (bad : Bool) : Bool × Rejection := (bad, ⟨.wrongState, 0, s.part.code⟩)

/-- RANGE of the one-byte field at place `i`, field index `idx`, above `hi`. -/
def above (p : List Byte) (i idx hi : Nat) : Bool × Rejection := (hi < u8 p i, ⟨.range, idx, u8 p i⟩)

/-- The part is in one of the states STARTING and RUN. -/
def State.running (s : State) : Bool := s.part == .starting || s.part == .run

end Sys2Proof.Machine
end

