-- ==== Sys2Proof/Machine/Map.lean ====
section
/-!
DEFINITION. The Bay Map (spec/01_bay_map.md): the walk, closure and bucket, counted-as, slots, the
recount's trigger and scan, and the map requests that hand nothing to the Guidance Unit.
-/

namespace Sys2Proof.Machine

/-! ### Slots and the walk (R2 to R7) -/

/-- What the level, row and slot of an address give (R7). -/
inductive Stage where
  | noLevel | noRow | slot (x : Slot)
  deriving DecidableEq, Repr

/-- The level, row and slot of an address (R7). -/
def State.stage (s : State) (a : Addr) : Stage :=
  if (s.levels.get a.level).present then
    match (s.rows.get a.rowKey).table with
    | none => .noRow
    | some t => .slot ((s.tables.get t).get a.pos)
  else .noLevel

/-- The bay record at an address. -/
def State.bayAt (s : State) (a : Addr) : Option Bay :=
  match s.stage a with
  | .slot (.bay b) => some b
  | _ => none

/-- The slot at an address replaced, nothing for an unbound row. -/
def State.setSlot (s : State) (a : Addr) (x : Slot) : State :=
  match (s.rows.get a.rowKey).table with
  | none => s
  | some t => { s with tables := put s.tables t (put (s.tables.get t) a.pos x) }

/-- The bay record at an address changed by `f`. -/
def State.updBay (s : State) (a : Addr) (f : Bay → Bay) : State :=
  match s.bayAt a with
  | some b => s.setSlot a (.bay (f b))
  | none => s

/-- How a walk ends (R7). -/
inductive WalkEnd where
  | noLevel | noRow | empty | bay (own : Addr) (b : Bay)
  deriving DecidableEq, Repr

/-- The end of a walk and the target of the alias it followed (R7). -/
structure Walk where
  result  : WalkEnd
  aliased : Option Addr
  deriving DecidableEq, Repr

/-- The end of a walk that follows no alias from `a`. An alias that targets an alias does not occur
(R6). -/
def State.walkDirect (s : State) (a : Addr) : WalkEnd :=
  match s.stage a with
  | .noLevel => .noLevel
  | .noRow => .noRow
  | .slot .empty => .empty
  | .slot (.bay b) => .bay a b
  | .slot (.aliasTo _) => .empty

/-- The walk of an address (R7). -/
def State.walk (s : State) (a : Addr) : Walk :=
  match s.stage a with
  | .slot (.aliasTo t) => ⟨s.walkDirect t, some t⟩
  | _ => ⟨s.walkDirect a, none⟩

/-! ### Closure, level and bucket (R8 to R10) -/

/-- The window is enabled and matches the bay's own address (R10). -/
def Window.hits (w : Window) (a : Addr) : Bool :=
  w.enabled && ((BitVec.ofNat 14 a.linear ^^^ w.base) &&& ~~~w.mask) == 0

/-- A CLOSE window that matches (R8). -/
def Window.closes (w : Window) (a : Addr) : Bool := w.hits a && w.action == .close

/-- The terms of the closure that hold for the bay at `a`: level, row, bay, window 0, window 1 (R8). -/
def State.closedTerms (s : State) (a : Addr) (b : Bay) : List Bool :=
  [(s.levels.get a.level).closed, (s.rows.get a.rowKey).closed, b.closed,
   (s.windows.get 0).closes a, (s.windows.get 1).closes a]

/-- The bay's effective closure (R8). -/
def State.isClosed (s : State) (a : Addr) (b : Bay) : Bool := (s.closedTerms a b).any id

/-- The level a LEVEL window that matches puts on the bay; 3 when it takes no part (R9). -/
def Window.levelTerm (w : Window) (a : Addr) : AccessLevel :=
  if w.hits a && w.action == .level then w.level else 3

/-- The bay's effective bay level: the lowest of the terms of R9. -/
def State.effectiveLevel (s : State) (a : Addr) (b : Bay) : AccessLevel :=
  min (s.levels.get a.level).rl (min (s.rows.get a.rowKey).rl
    (min b.bl (min ((s.windows.get 0).levelTerm a) ((s.windows.get 1).levelTerm a))))

/-- The bucket of an effective bay level and strictness (R9). -/
def bucketOf (l : AccessLevel) (strict : Bool) : Bucket :=
  ⟨2 * l.val + (if strict then 1 else 0), by split <;> omega⟩

/-- The fresh evaluation of a bay (R24). -/
def State.evalBay (s : State) (a : Addr) (b : Bay) : CountedAs :=
  { zone := b.zone, bucket := bucketOf (s.effectiveLevel a b) b.strict, isOpen := !s.isClosed a b,
    state := b.occ }

/-! ### Counts (R36, R37) -/

/-- Counted free: counted open with counted state FREE (R24). -/
def CountedAs.isFree (k : CountedAs) : Bool := k.isOpen && k.state == .free

/-- One counted-as added to a block (R37). -/
def CountBlock.add (c : CountBlock) (k : CountedAs) : CountBlock :=
  { total := c.total + 1
    opened := c.opened + (if k.isOpen then 1 else 0)
    occupied := c.occupied + (if k.state == .occupied then 1 else 0)
    unknown := c.unknown + (if k.state == .unknown then 1 else 0)
    free := if k.isFree then modify c.free k.bucket (· + 1) else c.free }

/-- One counted-as removed from a block (R37). -/
def CountBlock.sub (c : CountBlock) (k : CountedAs) : CountBlock :=
  { total := c.total - 1
    opened := c.opened - (if k.isOpen then 1 else 0)
    occupied := c.occupied - (if k.state == .occupied then 1 else 0)
    unknown := c.unknown - (if k.state == .unknown then 1 else 0)
    free := if k.isFree then modify c.free k.bucket (· - 1) else c.free }

/-- A counted-as added to the block of its zone. -/
def addCount (t : Vector CountBlock 24) (k : CountedAs) : Vector CountBlock 24 :=
  modify t k.zone (·.add k)

/-- A counted-as removed from the block of its zone. -/
def subCount (t : Vector CountBlock 24) (k : CountedAs) : Vector CountBlock 24 :=
  modify t k.zone (·.sub k)

/-- A recount is in flight (R25). -/
def State.recounting (s : State) : Bool :=
  match s.recount with
  | .idle => false
  | .scanning _ _ => true

/-- A recount is in flight and has scanned row `k` (R24, R44). -/
def State.rowScanned (s : State) (k : RowKey) : Bool :=
  match s.recount with
  | .idle => false
  | .scanning cursor _ => k < cursor

/-- The bay at `a` is evaluated afresh: its counted-as and the live counts move, and, when its row
has been scanned, its shadow counted-as and the shadow counts (R24). -/
def State.recountBay (s : State) (a : Addr) : State :=
  match s.bayAt a with
  | none => s
  | some b =>
    let k := s.evalBay a b
    let scanned := s.rowScanned a.rowKey
    let s1 := s.setSlot a (.bay { b with counted := k, shadow := if scanned then k else b.shadow })
    { s1 with
      live := addCount (subCount s.live b.counted) k
      shadow := if scanned then addCount (subCount s.shadow b.shadow) k else s.shadow }

/-- A bay record placed at `a` enters the counts (R24: a bay being created has no old contribution). Its shadow
counted-as is the fresh evaluation in every case: the model's choice, log entry 38. -/
def State.countNew (s : State) (a : Addr) (b : Bay) : State :=
  let k := s.evalBay a b
  let s1 := s.setSlot a (.bay { b with counted := k, shadow := k })
  { s1 with
    live := addCount s.live k
    shadow := if s.rowScanned a.rowKey then addCount s.shadow k else s.shadow }

/-- The contribution of a bay being removed leaves the counts (R24). -/
def State.uncount (s : State) (a : Addr) (b : Bay) : State :=
  { s with
    live := subCount s.live b.counted
    shadow := if s.rowScanned a.rowKey then subCount s.shadow b.shadow else s.shadow }

/-! ### Slots written in CONFIG (R5, R18) -/

/-- An enabled BAY station's input is bound to the address (R165; log entry 10). -/
def State.boundInput (s : State) (a : Addr) : Bool :=
  s.stations.toList.any fun st =>
    st.enabled && match st.binding with
      | .bay inputs => inputs.toList.contains (some a)
      | _ => false

/-- The alias at some slot that targets `t` is gone: alias-in count 0, no secondary input (R18). -/
def State.unalias (s : State) (t : Addr) : State :=
  s.updBay t fun b => { b with aliasIn := 0, secondary := none }

/-- The slot at `a` emptied, with the effects of R18 for a BAY or ALIAS it held. -/
def State.clearSlot (s : State) (a : Addr) : State :=
  match s.stage a with
  | .slot (.bay b) => (s.uncount a b).setSlot a .empty
  | .slot (.aliasTo t) => (s.setSlot a .empty).unalias t
  | _ => s

/-- A new bay record (R5). Its counted-as is set when it enters the counts. -/
def newBay (zone : ZoneId) (bl : AccessLevel) (strict closed : Bool) (group : Option GroupId)
    (bound : Bool) : Bay :=
  let k : CountedAs := ⟨zone, 0, false, .unknown⟩
  { zone := zone, bl := bl, strict := strict, closed := closed, group := group
    primary := if bound then some .unknown else none
    secondary := none, occ := .unknown, disagree := false, disagreeTimer := none, aliasIn := 0
    visited := false, changed := false, counted := k, shadow := k }

/-- The configured fields of a bay rewritten (R18, R19). -/
def Bay.configure (b : Bay) (zone : ZoneId) (bl : AccessLevel) (strict closed : Bool)
    (group : Option GroupId) : Bay :=
  { b with zone := zone, bl := bl, strict := strict, closed := closed, group := group }

/-! ### Slot descriptors (section 10.7) -/

/-- The configured fields that a BAY descriptor carries. -/
def descBay (d : List Byte) : ZoneId × AccessLevel × Bool × Bool × Option GroupId :=
  (toFin 24 (u8 d 1), toFin 4 (u8 d 2), (d.getD 2 0).getLsbD 2, (d.getD 2 0).getLsbD 3,
   toFinOpt 64 (u8 d 3))

/-- The descriptor of a slot as Read Slots returns it (R20). -/
def stageBytes : Stage → List Byte
  | .noLevel => [128, 0, 0, 0, 0, 0, 0, 0]
  | .noRow => [128, 0, 0, 0, 0, 0, 0, 0]
  | .slot .empty => [0, 0, 0, 0, 0, 0, 0, 0]
  | .slot (.aliasTo t) => [2] ++ t.bytes ++ [0, 0, 0, 0]
  | .slot (.bay b) =>
    [1, byte b.zone.val, byte (b.bl.val + bitIf b.strict 4 + bitIf b.closed 8), optByte b.group,
     byte b.occ.code, byte (bitIf b.disagree 1 + 2 * b.aliasIn.val), 0, 0]

/-- The descriptor applied in CONFIG to the slot at `a` (R18). -/
def State.applyDescriptor (s : State) (a : Addr) (d : List Byte) : State :=
  match u8 d 0 with
  | 1 =>
    let (zone, bl, strict, closed, group) := descBay d
    match s.stage a with
    | .slot (.bay b) => (s.setSlot a (.bay (b.configure zone bl strict closed group))).recountBay a
    | _ =>
      let s1 := s.clearSlot a
      s1.countNew a (newBay zone bl strict closed group (s1.boundInput a))
  | 2 =>
    let t := addrAt d 1
    if s.stage a = .slot (.aliasTo t) then s
    else
      let s1 := (s.clearSlot a).setSlot a (.aliasTo t)
      let bound := s1.boundInput a
      s1.updBay t fun b => { b with aliasIn := 1, secondary := if bound then some .unknown else none }
  | _ => s.clearSlot a

/-- The type code of what stands at the slot, an unbound row counting as EMPTY (R19). -/
def stageType : Stage → Nat
  | .slot (.bay _) => 1
  | .slot (.aliasTo _) => 2
  | _ => 0

/-- The descriptor names the present target of the ALIAS at the slot. -/
def sameTarget (g : Stage) (d : List Byte) : Bool :=
  match g with
  | .slot (.aliasTo t) => addrInRange d 1 && addrAt d 1 == t
  | _ => false

/-- The checks of a descriptor at the slot under the cursor, in the order of R17. BL above 3 is a byte 2
above 15 (log entry 11). -/
def descriptorChecks (s : State) (d : List Byte) (idx : Nat) : List (Bool × Rejection) :=
  let ty := u8 d 0
  let wrong (bad : Bool) : Bool × Rejection := (bad, ⟨.wrongState, idx, ty⟩)
  let range (bad : Bool) (v : Nat) : Bool × Rejection := (bad, ⟨.range, idx, v⟩)
  let conflict (bad : Bool) : Bool × Rejection := (bad, ⟨.conflict, idx, ty⟩)
  let shape : List (Bool × Rejection) :=
    match s.cursor with
    | none => []
    | some a =>
      [wrong (s.running && (ty != stageType (s.stage a) || (ty == 2 && !sameTarget (s.stage a) d)))]
  let ranges : List (Bool × Rejection) :=
    [range (2 < ty) ty, range (ty == 1 && 23 < u8 d 1) (u8 d 1),
     range (ty == 1 && 15 < u8 d 2) (u8 d 2),
     range (ty == 1 && 63 < u8 d 3 && u8 d 3 != 255) (u8 d 3),
     range (ty == 2 && 7 < u8 d 1) (u8 d 1), range (ty == 2 && 31 < u8 d 2) (u8 d 2),
     range (ty == 2 && 63 < u8 d 3) (u8 d 3)]
  let object : List (Bool × Rejection) :=
    match s.cursor with
    | none => []
    | some a =>
      let config := s.part == .config
      let t := addrAt d 1
      let g := s.stage a
      [((match g with
          | .slot _ => false
          | _ => true), ⟨.noObject, idx, a.row.val⟩),
       conflict (config && ty != 1 && match g with
          | .slot (.bay b) => b.aliasIn == 1 || s.boundInput a
          | _ => false),
       conflict (config && match g with
          | .slot (.aliasTo _) => s.boundInput a && !(ty == 2 && sameTarget g d)
          | _ => false),
       conflict (config && ty == 2 && ((s.bayAt t).isNone || t == a)),
       conflict (config && ty == 2 && match s.bayAt t with
          | some b => b.aliasIn == 1 && !sameTarget g d
          | none => false)]
  shape ++ ranges ++ object ++ [(s.cursor.isNone, ⟨.cursorEnd, idx, ty⟩)]

/-- The map cursor moves on one slot in address order (R15). -/
def State.advanceCursor (s : State) : State :=
  { s with cursor := s.cursor.bind Addr.next }

/-- The payload cut into descriptors of 8 bytes. -/
def descriptors : Nat → List Byte → List (List Byte)
  | 0, _ => []
  | n + 1, p => p.take 8 :: descriptors n (p.drop 8)

/-! ### Recount (R25, R26) -/

/-- A trigger starts the scan, or restarts it with the restart count risen by one up to 255 (R25). -/
def State.triggerRecount (s : State) : State :=
  { s with
    shadow := Vector.replicate 24 CountBlock.zero
    recount := match s.recount with
      | .idle => .scanning 0 0
      | .scanning _ n => .scanning 0 (min 255 (n + 1)) }

/-- The slot at `a` evaluated by a row step: only a BAY adds to the shadow counts (R26). -/
def State.scanSlot (s : State) (a : Addr) : State :=
  match s.bayAt a with
  | none => s
  | some b =>
    let k := s.evalBay a b
    let s1 := s.setSlot a (.bay { b with shadow := k })
    { s1 with shadow := addCount s.shadow k }

/-- Every slot of row `k` evaluated (R26). -/
def State.scanRow (s : State) (k : RowKey) : State :=
  (List.finRange 64).foldl (fun s p => s.scanSlot (Addr.ofRow k p)) s

/-- Every bay record of the map changed by `f`, which is given the bay's own address. -/
def State.mapBays (s : State) (f : Addr → Bay → Bay) : State :=
  { s with
    tables := (List.finRange 256).foldl (fun tabs k =>
      match (s.rows.get k).table with
      | none => tabs
      | some t => put tabs t (Vector.ofFn fun p =>
          match (tabs.get t).get p with
          | .bay b => .bay (f (Addr.ofRow k p) b)
          | x => x)) s.tables }

/-- The sum of the counted-as of all bays (R24, R37). -/
def State.sumCounts (s : State) : Vector CountBlock 24 :=
  (List.finRange 256).foldl (fun acc k =>
    match (s.rows.get k).table with
    | none => acc
    | some t => (s.tables.get t).toList.foldl (fun acc x =>
        match x with
        | .bay b => addCount acc b.counted
        | _ => acc) acc) (Vector.replicate 24 CountBlock.zero)

/-- The live counts and every counted-as take their shadow values, and the recount is IDLE: the first
steps of completion (R27). -/
def State.adoptShadow (s : State) : State :=
  { s.mapBays fun _ b => { b with counted := b.shadow } with live := s.shadow, recount := .idle }

/-! ### Map requests (R11, R13 to R15, R20 to R23) -/

/-- The RANGE checks of an address at payload place 0, field 0 (an address is one field). -/
def addressRange (p : List Byte) : List (Bool × Rejection) :=
  [(7 < u8 p 0, ⟨.range, 0, u8 p 0⟩), (31 < u8 p 1, ⟨.range, 0, u8 p 1⟩), (63 < u8 p 2, ⟨.range, 0, u8 p 2⟩)]

/-- Set Cursor (R15). -/
def setCursorRequest (p : List Byte) (e : Ev) : Reply × Ev :=
  judged (badLength p (p.length == 3) :: addressRange p) e
    (.done [], e.mapS fun s => { s with cursor := some (addrAt p 0) })

/-- The slots read from the cursor, at most `n`, with the cursor after them (R20). -/
def readFrom (s : State) : Nat → Option Addr → List (List Byte) × Option Addr
  | 0, c => ([], c)
  | _ + 1, none => ([], none)
  | n + 1, some a =>
    let (rest, c) := readFrom s n a.next
    (stageBytes (s.stage a) :: rest, c)

/-- Read Slots (R20). -/
def readSlotsRequest (p : List Byte) (e : Ev) : Reply × Ev :=
  let n := u8 p 0
  let (slots, c) := readFrom e.s n e.s.cursor
  judged [badLength p (p.length == 1), (n == 0 || 24 < n, ⟨.range, 0, n⟩),
      (e.s.cursor.isNone, ⟨.cursorEnd, 0, n⟩)] e
    (.done ([byte slots.length] ++ cursorBytes c ++ slots.flatten),
     e.mapS fun s => { s with cursor := c })

/-- The closure byte of Probe Bay: level 1, row 2, ... in the place the layout gives each term. -/
def closedByte (closed : Bool) (terms : List Bool) : Byte :=
  byte (bitIf closed 1 + ((terms.zip [2, 4, 8, 16, 32]).map fun t => bitIf t.1 t.2).sum)

/-- The report of Probe Bay (R14, section 10.7). -/
def probeReport (s : State) (a : Addr) : List Byte :=
  let w := s.walk a
  let endCode : Nat := match w.result with
    | .noLevel => 0 | .noRow => 1 | .empty => 2 | .bay _ _ => 3
  let target : List Byte := match w.aliased with
    | some t => t.bytes
    | none => [255, 255, 255]
  let bayPart : List Byte := match w.result with
    | .bay own b =>
      [byte (s.effectiveLevel own b).val, flagByte b.strict,
       closedByte (s.isClosed own b) (s.closedTerms own b),
       byte (bitIf ((s.windows.get 0).hits own) 1 + bitIf ((s.windows.get 1).hits own) 2),
       byte b.zone.val, byte b.occ.code, byte b.counted.zone.val, byte b.counted.bucket.val,
       flagByte b.counted.isOpen, byte b.counted.state.code]
    | _ => List.replicate 10 255
  let below : Byte := match w.result, s.recount with
    | .bay own _, .scanning cursor _ => flagByte (own.rowKey < cursor)
    | _, _ => 255
  [byte endCode, flagByte w.aliased.isSome] ++ target ++ bayPart ++ [flagByte s.recounting, below]

/-- Probe Bay (R14). -/
def probeBayRequest (p : List Byte) (e : Ev) : Reply × Ev :=
  judged (badLength p (p.length == 3) :: addressRange p) e (.done (probeReport e.s (addrAt p 0)), e)

/-- The history byte of a slot: visited 1 + changed 2, clear for any slot but a BAY (R13). -/
def historyByte : Stage → Byte
  | .slot (.bay b) => byte (bitIf b.visited 1 + bitIf b.changed 2)
  | _ => 0

/-- Sweep Row (R13). -/
def sweepRowRequest (p : List Byte) (e : Ev) : Reply × Ev :=
  let l : LevelId := toFin 8 (u8 p 0)
  let at' (q : Fin 64) : Addr := ⟨l, toFin 32 (u8 p 1), q⟩
  let k := (at' 0).rowKey
  let report := (List.finRange 64).map (fun q => historyByte (e.s.stage (at' q))) ++
    [flagByte (e.s.rows.get k).visited, flagByte (e.s.levels.get l).visited]
  let cleared (s : State) : State :=
    (List.finRange 64).foldl (fun s q => s.updBay (at' q) fun b => { b with visited := false, changed := false })
      { s with
        rows := modify s.rows k fun r => { r with visited := false }
        levels := modify s.levels l fun r => { r with visited := false } }
  judged [badLength p (p.length == 2), above p 0 0 7, above p 1 1 31] e (.done report, e.mapS cleared)

/-- A row of the level is bound (R21). -/
def State.levelBound (s : State) (l : LevelId) : Bool :=
  (List.finRange 32).any fun r => (s.rows.get (Addr.mk l r 0).rowKey).table.isSome

/-- Write Level (R21). A level out of range is not judged for WRONG_STATE in STARTING and RUN: the model's choice,
log entry 42. -/
def writeLevelRequest (p : List Byte) (e : Ev) : Reply × Ev :=
  let l : LevelId := toFin 8 (u8 p 0)
  let old := e.s.levels.get l
  let present := u8 p 1 != 0
  let new : Level := ⟨present, u8 p 2 != 0, toFin 4 (u8 p 3), old.visited⟩
  judged [badLength p (p.length == 4),
      wrongState e.s (e.s.part == .stopping || (e.s.running && u8 p 0 ≤ 7 && present != old.present)),
      above p 0 0 7, above p 3 3 3,
      (!present && e.s.levelBound l, ⟨.conflict, 1, u8 p 1⟩)] e
    (.done [], e.mapS fun s =>
      let s1 := { s with levels := put s.levels l new }
      if new.closed != old.closed || new.rl != old.rl then s1.triggerRecount else s1)

/-- One of the table's slots has a bound input (one of an enabled entry: log entry 10) or is the target of an alias
(R22). `k` is the row the table is bound to. -/
def State.tableEngaged (s : State) (k : RowKey) : Bool :=
  (List.finRange 64).any fun q =>
    let a := Addr.ofRow k q
    s.boundInput a || match s.bayAt a with
      | some b => b.aliasIn == 1
      | none => false

/-- The table is bound to a row other than `k` (R22). -/
def State.boundElsewhere (s : State) (t : TableId) (k : RowKey) : Bool :=
  (List.finRange 256).any fun j => j != k && (s.rows.get j).table == some t

/-- The slots of row `k` emptied, with the effects of R18 (R22). -/
def State.clearRow (s : State) (k : RowKey) : State :=
  (List.finRange 64).foldl (fun s q => s.clearSlot (Addr.ofRow k q)) s

/-- Write Row (R22, R23). A level or row out of range is not judged for WRONG_STATE in STARTING and RUN: the
model's choice, log entry 42. R22 refuses a field out of range and names none: that a closed byte above 1 is none, and
is taken as yes, is the model's choice, log entry 51. -/
def writeRowRequest (p : List Byte) (e : Ev) : Reply × Ev :=
  let l : LevelId := toFin 8 (u8 p 0)
  let k := (Addr.mk l (toFin 32 (u8 p 1)) 0).rowKey
  let old := e.s.rows.get k
  let table : Option TableId := toFinOpt 64 (u8 p 2)
  let outOfTable := 63 < u8 p 2 && u8 p 2 != 255
  let inRange := u8 p 0 ≤ 7 && u8 p 1 ≤ 31
  let differs := outOfTable || table != old.table
  let new : Row := ⟨table, u8 p 3 != 0, toFin 4 (u8 p 4), old.visited⟩
  judged [badLength p (p.length == 5),
      wrongState e.s (e.s.part == .stopping || (e.s.running && inRange && differs)),
      above p 0 0 7, above p 1 1 31, (outOfTable, ⟨.range, 2, u8 p 2⟩), above p 4 4 3,
      (table.isSome && table != old.table && !(e.s.levels.get l).present, ⟨.noObject, 0, u8 p 0⟩),
      ((match table with
        | some t => e.s.boundElsewhere t k
        | none => false), ⟨.conflict, 2, u8 p 2⟩),
      (old.table.isSome && differs && e.s.tableEngaged k, ⟨.conflict, 2, u8 p 2⟩)] e
    (.done [], e.mapS fun s =>
      let s1 := if old.table.isSome && differs then s.clearRow k else s
      let s2 := { s1 with rows := put s1.rows k new }
      if new.closed != old.closed || new.rl != old.rl then s2.triggerRecount else s2)

/-- Set Window (R11). -/
def setWindowRequest (p : List Byte) (e : Ev) : Reply × Ev :=
  let new : Window :=
    { enabled := u8 p 1 != 0, base := BitVec.ofNat 14 (u16 p 2), mask := BitVec.ofNat 14 (u16 p 4)
      action := if u8 p 6 = 0 then .close else .level, level := toFin 4 (u8 p 7) }
  judged [badLength p (p.length == 8), wrongState e.s (e.s.part == .stopping), above p 0 0 1,
      (16383 < u16 p 2, ⟨.range, 2, u16 p 2⟩), (16383 < u16 p 4, ⟨.range, 3, u16 p 4⟩),
      above p 6 4 1, above p 7 5 3] e
    (.done [], e.mapS fun s => { s with windows := put s.windows (toFin 2 (u8 p 0)) new }.triggerRecount)

end Sys2Proof.Machine
end

