-- ==== Sys2Proof/Machine/Guidance.lean ====
section
/-!
DEFINITION. The Guidance Unit (spec/03_arrivals_access_levels_and_holds.md): zone closure, holds,
arrival queues, assignment, routes, and the requests of that chapter.
-/

namespace Sys2Proof.Machine

/-! ### Hold lists and net free counts (R66) -/

/-- The hold is of (zone, bucket). -/
def State.holdOf (s : State) (z : ZoneId) (b : Bucket) (id : HoldId) : Bool :=
  match s.holds.get id with
  | some h => h.zone == z && h.bucket == b
  | none => false

/-- The hold list of (zone, bucket), oldest first (R66). -/
def State.holdList (s : State) (z : ZoneId) (b : Bucket) : List HoldId := s.holdOrder.filter (s.holdOf z b)

/-- holds[b] of a zone (R66). -/
def State.holdCount (s : State) (z : ZoneId) (b : Bucket) : Nat := (s.holdList z b).length

/-- free[b] of a zone's live count block. -/
def State.freeCount (s : State) (z : ZoneId) (b : Bucket) : Nat := (s.live.get z).free.get b

/-- The net free count free[b] − holds[b] (R66). -/
def State.netFree (s : State) (z : ZoneId) (b : Bucket) : Int := (s.freeCount z b : Int) - s.holdCount z b

/-! ### Releasing holds (R68, R71) -/

/-- A group's route count changed, and the group to be derived (R141). -/
def Ev.addRoute (e : Ev) (g : GroupId) : Ev :=
  (e.mapS fun s => s.updGroup g fun x => { x with routeCount := x.routeCount + 1 }).markGroup g

/-- A group's route count lowered by one, and the group to be derived (R141). -/
def Ev.dropRoute (e : Ev) (g : GroupId) : Ev :=
  (e.mapS fun s => s.updGroup g fun x => { x with routeCount := x.routeCount - 1 }).markGroup g

/-- The lane's head is ASSIGNED the hold `id`. -/
def Lane.headHolds (l : Lane) (id : HoldId) : Bool :=
  match l.queue with
  | { state := .assigned _ _ h, .. } :: _ => h == id
  | _ => false

/-- A hold is released, whatever the cause (R68). An ASSIGNED head it belongs to is marked to be
assigned again at the end of the event (R64). -/
def Ev.release (e : Ev) (id : HoldId) : Ev :=
  match e.s.holds.get id with
  | none => e
  | some h =>
    let e1 := e.mapS fun s => { s.setHold id none with holdOrder := s.holdOrder.filter (· != id) }
    let e2 := (h.groups.foldl Ev.dropRoute e1).markPanelZone h.zone
    (List.finRange 8).foldl (fun e l => if (e.s.lanes.get l).headHolds id then e.markAssign l else e) e2

/-- The hold trim of (zone, bucket): the newest holds are released while holds[b] exceeds free[b] (R71). -/
def Ev.trim (e : Ev) (z : ZoneId) (b : Bucket) : Ev :=
  let l := e.s.holdList z b
  (l.reverse.take (l.length - e.s.freeCount z b)).foldl Ev.release e

/-- The holds of a zone, in every bucket. -/
def State.zoneHolds (s : State) (z : ZoneId) : List HoldId :=
  s.holdOrder.filter fun id => match s.holds.get id with
    | some h => h.zone == z
    | none => false

/-! ### Zone guidance state (R47 to R50) -/

/-- What a unit changes of a zone's causes or advisory flag, with the effects of R50: on entering
CLOSED every hold of the zone is released, and on leaving it the NO_SPACE heads are to be retried. A
release raises a net free count, so it retries them too (R64). The ZONE_STATE notice is raised at the
end of the event, from the states before and after it. -/
def Ev.guide (e : Ev) (z : ZoneId) (f : Zone → Zone) : Ev :=
  match e.s.zones.get z with
  | none => e
  | some old =>
    let new := f old
    let e1 := e.mapS fun s => s.setZone z (some new)
    if new.guidance = old.guidance then e1
    else
      let e2 := e1.markPanelZone z
      if new.guidance = .closed then
        let held := e2.s.zoneHolds z
        let e3 := held.foldl Ev.release e2
        if held.isEmpty then e3 else e3.markRetry
      else if old.guidance = .closed then e2.markRetry
      else e2

/-- A zone's closure cause set changed by `f` (R48, R49). -/
def Ev.setCauses (e : Ev) (z : ZoneId) (f : Causes → Causes) : Ev :=
  e.guide z fun x => { x with causes := f x.causes }

/-- The ZONE_STATE notices of an event that began in `old` (R50). -/
def Ev.raiseZoneStates (e : Ev) (old : State) : Ev :=
  (List.finRange 24).foldl (fun e z =>
    match old.zones.get z, e.s.zones.get z with
    | some x, some y =>
      if x.guidance = y.guidance then e
      else e.raise .zoneState z.val [byte y.guidance.code, y.causes.toByte]
    | _, _ => e) e

/-! ### Assignment (R60 to R64, R67) -/

/-- The permitted buckets for an effective level, in order of preference (R60). -/
def permitted (el : AccessLevel) : List Bucket :=
  bucketOf el true :: (List.finRange 4).filterMap fun l => if el ≤ l then some (bucketOf l false) else none

/-- The route with the key (lane, zone) (R74). -/
def State.routeFor (s : State) (l : LaneId) (z : ZoneId) : Option (RouteId × Route) :=
  (List.finRange 64).findSome? fun i =>
    match s.routes.get i with
    | some r => if r.lane = l ∧ r.zone = z then some (i, r) else none
    | none => none

/-- A candidate zone for a head (R62, R63). -/
structure Candidate where
  zone     : ZoneId
  advisory : Bool
  rank     : Nat
  net      : Int
  bucket   : Bucket
  route    : RouteId
  groups   : List GroupId
  holdTime : Nat

/-- The zone as a candidate for the head of lane `l` with effective level `el` (R62); its bucket is
the first permitted one with a net free count above 0 (R63). -/
def State.candidate (s : State) (l : LaneId) (el : AccessLevel) (z : ZoneId) : Option Candidate :=
  match s.routeFor l z, s.zones.get z with
  | some (i, r), some x =>
    if x.guidance = .closed then none
    else match (permitted el).find? fun b => 0 < s.netFree z b with
      | none => none
      | some b =>
        some { zone := z, advisory := x.guidance == .advisory, rank := r.rank
               net := ((permitted el).map (s.netFree z)).sum, bucket := b, route := i
               groups := r.groups, holdTime := x.profile.holdTime }
  | _, _ => none

/-- `c` comes before `d` in the ranking of R63; zone numbers are settled by the order of the search. -/
def Candidate.beats (c d : Candidate) : Bool :=
  if c.advisory != d.advisory then d.advisory
  else if c.rank != d.rank then c.rank < d.rank
  else d.net < c.net

/-- The candidate that comes first in the ranking (R63). -/
def State.bestCandidate (s : State) (l : LaneId) (el : AccessLevel) : Option Candidate :=
  (List.finRange 24).foldl (fun best z =>
    match s.candidate l el z, best with
    | none, _ => best
    | some c, none => some c
    | some c, some d => if c.beats d then some c else some d) none

/-- The free hold entry with the lowest number (R65). -/
def State.freeHold (s : State) : Option HoldId :=
  (List.finRange 128).find? fun i => (s.holds.get i).isNone

/-- The state of a lane's head set; its LANE panel is to be derived (R52, R78). -/
def Ev.setHead (e : Ev) (l : LaneId) (st : ArrivalState) : Ev :=
  (e.mapS fun s => s.updLane l fun x =>
    match x.queue with
    | [] => x
    | h :: t => { x with queue := { h with state := st } :: t }).markPanelLane l

/-- A hold is created for the head of lane `l` in entry `id` (R67). -/
def Ev.createHold (e : Ev) (l : LaneId) (id : HoldId) (c : Candidate) : Ev :=
  let h : Hold := ⟨c.zone, c.bucket, l, c.route, c.groups, e.s.after (c.holdTime * 1000)⟩
  let e1 := e.mapS fun s => { s.setHold id (some h) with holdOrder := s.holdOrder ++ [id] }
  (c.groups.foldl Ev.addRoute e1).markPanelZone c.zone

/-- The head of a lane is assigned (R61). -/
def Ev.assignHead (e : Ev) (l : LaneId) : Ev :=
  match (e.s.lanes.get l).queue with
  | [] => e
  | head :: _ =>
    if e.s.recounting then e.setHead l .waiting
    else match e.s.freeHold, e.s.bestCandidate l head.el with
      | some id, some c => (e.createHold l id c).setHead l (.assigned c.zone c.bucket id)
      | _, _ => e.setHead l .noSpace

/-- The lane's head is NO_SPACE. -/
def Lane.headNoSpace (l : Lane) : Bool :=
  match l.queue with
  | { state := .noSpace, .. } :: _ => true
  | _ => false

/-- The lane's head is WAITING. -/
def Lane.headWaiting (l : Lane) : Bool :=
  match l.queue with
  | { state := .waiting, .. } :: _ => true
  | _ => false

/-- The heads of the event are assigned one after another in lane order (R64): those marked, and,
when a retry is due, those that are NO_SPACE. -/
def Ev.assignHeads (e : Ev) : Ev :=
  (List.finRange 8).foldl (fun e l =>
    if e.assign.contains l || (e.retry && (e.s.lanes.get l).headNoSpace) then e.assignHead l else e) e

/-! ### Handovers from the Occupancy Unit and the map (R39, R43, R27) -/

/-- A net free count of one of the two counted-as' (zone, bucket) is higher than it was in `old`. -/
def State.netRose (s old : State) (j k : CountedAs) : Bool :=
  old.netFree j.zone j.bucket < s.netFree j.zone j.bucket ||
    old.netFree k.zone k.bucket < s.netFree k.zone k.bucket

/-- A bay's change is handed over (R39, R43): `old` and `new` are its counted-as before and after,
`before` the state before the counts moved, `fulfil` that it became OCCUPIED. The oldest hold of the
bucket is released as FULFILLED when the bay became OCCUPIED counted open; then each (zone, bucket)
whose free count fell is trimmed; and NO_SPACE heads are to be retried when a net free count rose. The
panels that read the counts of its zones are to be derived (R78). -/
def Ev.handover (e : Ev) (before : State) (old new : CountedAs) (fulfil : Bool) : Ev :=
  let e1 := if fulfil && new.isOpen then
      match e.s.holdList new.zone new.bucket with
      | id :: _ => e.release id
      | [] => e
    else e
  let e2 := if e1.s.freeCount old.zone old.bucket < before.freeCount old.zone old.bucket
    then e1.trim old.zone old.bucket else e1
  let e3 := if e2.s.netRose before old new then e2.markRetry else e2
  (e3.markPanelZone old.zone).markPanelZone new.zone

/-- Every (zone, bucket) trimmed and every WAITING or NO_SPACE head to be assigned: the hand-over of a
recount's completion (R27, R64, R71). -/
def Ev.recountHandover (e : Ev) : Ev :=
  let e1 := (List.finRange 24).foldl (fun e z =>
    (List.finRange 8).foldl (fun e b => e.trim z b) e) e
  (List.finRange 8).foldl (fun e l =>
    let q := e.s.lanes.get l
    if q.headWaiting || q.headNoSpace then e.markAssign l else e) e1

/-! ### Movement (R112) -/

/-- A movement event for a zone: E rises by 1, up to 255; for a zone not configured it is discarded. -/
def Ev.movement (e : Ev) (z : ZoneId) : Ev :=
  e.mapS fun s => s.updZone z fun x => { x with vent := { x.vent with e := min 255 (x.vent.e + 1) } }

/-! ### Lane events (R53 to R58) -/

/-- An ARRIVE at an entry lane (R54). -/
def Ev.arrive (e : Ev) (l : LaneId) (vl : AccessLevel) : Ev :=
  let lane := e.s.lanes.get l
  let a : Arrival := ⟨vl, max vl lane.lc, .waiting⟩
  if lane.queue.length < 4 then
    let e1 := e.mapS fun s => s.updLane l fun x => { x with queue := x.queue ++ [a] }
    if lane.queue.isEmpty then (e1.markAssign l).markPanelLane l else e1
  else e.raise .laneOverflow l.val [byte vl.val]

/-- The head of a queue removed, and the new head, if any, to be assigned (R55, R56). -/
def Ev.dropHead (e : Ev) (l : LaneId) : Ev :=
  let e1 := (e.mapS fun s => s.updLane l fun x => { x with queue := x.queue.tail }).markPanelLane l
  if (e1.s.lanes.get l).queue.isEmpty then e1 else e1.markAssign l

/-- A PASS at an entry lane (R55). -/
def Ev.pass (e : Ev) (l : LaneId) : Ev :=
  match (e.s.lanes.get l).queue with
  | [] => e
  | { state := .assigned z _ _, .. } :: _ => (e.dropHead l).movement z
  | _ :: _ => e.dropHead l

/-- A BACKOUT at an entry lane (R56). -/
def Ev.backout (e : Ev) (l : LaneId) : Ev :=
  match (e.s.lanes.get l).queue with
  | [] => e
  | { state := .assigned _ _ id, .. } :: _ => ((e.dropHead l).release id).markRetry
  | _ :: _ => e.dropHead l

/-- A lane event taken from the detector of lane `l`: kind code ARRIVE 1, PASS 2, BACKOUT 3 (R54 to R57). -/
def Ev.laneEvent (e : Ev) (l : LaneId) (kind : Nat) (vl : AccessLevel) : Ev :=
  match (e.s.lanes.get l).direction, kind with
  | .entry, 1 => e.arrive l vl
  | .entry, 2 => e.pass l
  | .entry, 3 => e.backout l
  | .exit, 2 => (e.s.lanes.get l).movement.foldl Ev.movement e
  | _, _ => e

/-- The report of a LANE station: an event whose number is the one kept is a repeat; another is taken
and its number kept (R53). The level read is 3 for "unread" (R54). -/
def Ev.laneReport (e : Ev) (i : StationId) (l : LaneId) (payload : List Byte) : Ev :=
  if payload.isEmpty then e
  else
    let number := payload.getD 1 0
    if (e.s.stations.get i).lastEvent = some number then e
    else
      let e1 := e.mapS fun s => s.updStation i fun x => { x with lastEvent := some number }
      let vl : AccessLevel := if u8 payload 2 = 255 then 3 else toFin 4 (u8 payload 2)
      e1.laneEvent l (u8 payload 0) vl

/-- The detector of an entry lane is LOST: its queue is emptied (R58). -/
def Ev.laneLost (e : Ev) (l : LaneId) : Ev :=
  if (e.s.lanes.get l).direction = .entry then
    (e.mapS fun s => s.updLane l fun x => { x with queue := [] }).markPanelLane l
  else e

/-- The expiry timer of a hold runs out: the hold is released as EXPIRED, and NO_SPACE heads are retried
(R64, R70). -/
def Ev.holdExpiry (e : Ev) (id : HoldId) : Ev :=
  match e.s.holds.get id with
  | none => e
  | some h => ((e.reach h.expiry).release id).markRetry

/-! ### Requests (R48, R51, R59, R73, R75) -/

/-- NO_OBJECT for a zone that is not configured, named by field `idx`. -/
def zoneMissing (s : State) (p : List Byte) (i idx : Nat) : Bool × Rejection :=
  ((s.zones.get (toFin 24 (u8 p i))).isNone, ⟨.noObject, idx, u8 p i⟩)

/-- Close Zone (R48). -/
def closeZoneRequest (p : List Byte) (e : Ev) : Reply × Ev :=
  judged [badLength p (p.length == 1), above p 0 0 23, zoneMissing e.s p 0 0] e
    (.done [], e.setCauses (toFin 24 (u8 p 0)) fun c => { c with commanded := true })

/-- Open Zone (R48). -/
def openZoneRequest (p : List Byte) (e : Ev) : Reply × Ev :=
  judged [badLength p (p.length == 1), above p 0 0 23, zoneMissing e.s p 0 0] e
    (.done [], e.setCauses (toFin 24 (u8 p 0)) fun c => { c with commanded := false })

/-- Checks of one kind over a list of one-byte fields that starts at payload place `i`. -/
def listChecks (p : List Byte) (i n : Nat) (bad : Nat → Bool) (r : Reason) : List (Bool × Rejection) :=
  (List.range n).map fun j => (bad (i + j), ⟨r, i + j, u8 p (i + j)⟩)

/-- The byte at place `j` stands earlier in the list that starts at place `i`. -/
def repeated (p : List Byte) (i j : Nat) : Bool := (List.range (j - i)).any fun k => u8 p (i + k) == u8 p j

/-- Define Lane (R51). Direction NONE removes the lane's definition. -/
def defineLaneRequest (p : List Byte) (e : Ev) : Reply × Ev :=
  let n := u8 p 3
  let exit := u8 p 1 == 2
  let new : Lane :=
    { direction := Direction.ofCode (u8 p 1), lc := toFin 4 (u8 p 2)
      movement := (List.range n).map fun j => toFin 24 (u8 p (4 + j)), queue := [] }
  judged ([badLength p (4 ≤ p.length && p.length == n + 4), wrongState e.s (e.s.part != .config),
      above p 0 0 7, above p 1 1 2, above p 2 2 3,
      ((exit && (n == 0 || 4 < n)) || (!exit && 0 < n), ⟨.range, 3, n⟩)] ++
      listChecks p 4 n (fun i => 23 < u8 p i) .range ++
      listChecks p 4 n (fun i => (e.s.zones.get (toFin 24 (u8 p i))).isNone) .noObject ++
      listChecks p 4 n (repeated p 4) .conflict) e
    (.done [], e.mapS fun s => s.setLane (toFin 8 (u8 p 0)) (if u8 p 1 = 0 then Lane.reset else new))

/-- The enabled LANE station that binds a lane: its detector (R51). -/
def State.laneStation (s : State) (l : LaneId) : Option StationId :=
  (List.finRange 96).find? fun i => (s.stations.get i).enabled && (s.stations.get i).binding == .lane l

/-- The LANE panel that names a lane (R51, R77). -/
def State.lanePanel (s : State) (l : LaneId) : Option PanelId :=
  (List.finRange 32).find? fun i => (s.panels.get i).kind == .lane l

/-- A station number, 0 for none. -/
def stationByte : Option StationId → Byte
  | some i => byte (stationNumber i)
  | none => 0

/-- The report of one arrival (section 10.7). -/
def Arrival.bytes (a : Arrival) : List Byte :=
  [byte a.vl.val, byte a.el.val] ++ match a.state with
    | .waiting => [0, 255, 255, 255]
    | .assigned z b h => [1, byte z.val, byte b.val, byte h.val]
    | .noSpace => [2, 255, 255, 255]

/-- The report of Read Lane (R59). The detector's state without a detector, and the event number
without one kept, are free bytes (log entry 6). -/
def laneReportBytes (s : State) (l : LaneId) : List Byte :=
  let x := s.lanes.get l
  let st := s.laneStation l
  let stState : Byte := match st with
    | some i => byte (s.stations.get i).state.code
    | none => s.freeByte 0
  let event : List Byte := match st.bind fun i => (s.stations.get i).lastEvent with
    | some n => [1, n]
    | none => [0, s.freeByte 1]
  [byte l.val, byte x.direction.code, byte x.lc.val, byte x.movement.length] ++
    x.movement.map (fun z : ZoneId => byte z.val) ++ [stationByte st, stState, optByte (s.lanePanel l)] ++
    event ++ [byte x.queue.length] ++ x.queue.flatMap Arrival.bytes

/-- Read Lane (R59). -/
def readLaneRequest (p : List Byte) (e : Ev) : Reply × Ev :=
  let l : LaneId := toFin 8 (u8 p 0)
  judged [badLength p (p.length == 1), above p 0 0 7,
      ((e.s.lanes.get l).direction == .none, ⟨.noObject, 0, u8 p 0⟩)] e
    (.done (laneReportBytes e.s l), e.drawn)

/-- The report of one hold (R73, section 10.7). -/
def holdBytes (s : State) (id : HoldId) (h : Hold) : List Byte :=
  [byte id.val, byte h.zone.val, byte h.bucket.val, byte h.lane.val, byte h.route.val, byte h.groups.length] ++
    (h.groups.map (fun g : GroupId => byte g.val) ++ List.replicate 8 255).take 8 ++ bytes2 (s.secondsTo h.expiry)

/-- List Holds (R73). -/
def listHoldsRequest (p : List Byte) (e : Ev) : Reply × Ev :=
  let listed := ((List.finRange 128).filterMap fun i =>
    match e.s.holds.get i with
    | some h => if u8 p 0 ≤ i.val then some (holdBytes e.s i h) else none
    | none => none).take 12
  judged [badLength p (p.length == 1), above p 0 0 127] e
    (.done ([byte e.s.holdOrder.length, byte listed.length] ++ listed.flatten), e)

/-- The free route entry with the lowest number (R75). -/
def State.freeRoute (s : State) : Option RouteId := (List.finRange 64).find? fun i => (s.routes.get i).isNone

/-- Define Route (R75). The entry number of a removal that finds no entry is a free byte (log entry 6). That
such a removal retries the lane's NO_SPACE head as every accepted Define Route does is the model's choice: log
entry 45. That the CONFLICT of a new key which finds the table full names the lane, field 0, and not the zone is the
model's choice: log entry 53. -/
def defineRouteRequest (p : List Byte) (e : Ev) : Reply × Ev :=
  let l : LaneId := toFin 8 (u8 p 0)
  let z : ZoneId := toFin 24 (u8 p 1)
  let n := u8 p 4
  let removal := u8 p 3 != 0
  let key := (e.s.routeFor l z).map Prod.fst
  let new : Route := ⟨l, z, u8 p 2, (List.range n).map fun j => toFin 64 (u8 p (5 + j))⟩
  let place := if removal then key else key.orElse fun _ => e.s.freeRoute
  let number : Byte := match place with
    | some i => byte i.val
    | none => e.s.freeByte 0
  let e1 := e.mapS fun s => match place with
    | some i => { s with routes := put s.routes i (if removal then none else some new) }
    | none => s
  let e2 := if e1.s.running && (e1.s.lanes.get l).headNoSpace then e1.markAssign l else e1
  judged ([badLength p (5 ≤ p.length && p.length == n + 5), wrongState e.s (e.s.part == .stopping),
      above p 0 0 7, above p 1 1 23, above p 2 2 15, above p 4 4 8] ++
      listChecks p 5 n (fun i => 63 < u8 p i) .range ++
      [((e.s.lanes.get l).direction == .none, ⟨.noObject, 0, u8 p 0⟩), zoneMissing e.s p 1 1] ++
      listChecks p 5 n (fun i => (e.s.groups.get (toFin 64 (u8 p i))).isNone) .noObject ++
      [((e.s.lanes.get l).direction == .exit, ⟨.conflict, 0, u8 p 0⟩)] ++
      listChecks p 5 n (repeated p 5) .conflict ++
      [(!removal && place.isNone, ⟨.conflict, 0, u8 p 0⟩)]) e
    (.done [number], e2.drawn)

end Sys2Proof.Machine
end

