-- ==== Sys2Proof/Machine/Fans.lean ====
section
/-!
DEFINITION. Fan records as the Supply Limiter and the Ventilation Unit both change them
(spec/06_ventilation_programmes_and_fan_control.md): commands, output records, fan states, and the
UNVENTILATED condition (R126, R132, R135).
-/

namespace Sys2Proof.Machine

/-- The fan serves the zone (R126). -/
def Fan.serves (x : Fan) (z : ZoneId) : Bool := x.served.contains z

/-- A zone's serving fans (R126). -/
def State.servingFans (s : State) (z : ZoneId) : List FanId :=
  (List.finRange 32).filter fun f => match s.fans.get f with
    | some x => x.serves z
    | none => false

/-- The fan is in FAULT or LOST. -/
def Fan.outOfService (x : Fan) : Bool := x.state == .fault || x.state == .lost

/-- The UNVENTILATED condition: every serving fan is in FAULT or LOST (R126). -/
def State.unventilated (s : State) (z : ZoneId) : Bool :=
  (s.servingFans z).all fun f => match s.fans.get f with
    | some x => x.outOfService
    | none => true

/-- A zone judged for UNVENTILATED, and the judgement handed to the Guidance Unit (R49, R126). -/
def Ev.judgeVentilated (e : Ev) (z : ZoneId) : Ev :=
  let bad := e.s.unventilated z
  e.setCauses z fun c => { c with unventilated := bad }

/-- The place of a fan among the channels of a station's binding. -/
def Binding.fanChannel (b : Binding) (f : FanId) : Option (Fin 4) :=
  match b with
  | .fan channels => (List.finRange 4).find? fun c => channels.get c == some f
  | _ => Option.none

/-- The enabled FAN station and channel that bind a fan (R127). -/
def State.fanStation (s : State) (f : FanId) : Option (StationId × Fin 4) :=
  (List.finRange 96).findSome? fun i =>
    if (s.stations.get i).enabled then ((s.stations.get i).binding.fanChannel f).map fun c => (i, c) else none

/-- The station's output record marked dirty (R135, R151). -/
def Ev.markDirty (e : Ev) (i : StationId) : Ev :=
  (e.mapS fun s => s.updStation i fun x => { x with dirty := true }).markStop

/-- A fan's command is placed in its drive's output record (R135). -/
def Ev.placeFan (e : Ev) (f : FanId) : Ev :=
  match e.s.fanStation f with
  | some (i, _) => e.markDirty i
  | none => e

/-- A fan record changed by `g`; its ramp conditions and the condition of R189 are judged again. -/
def Ev.updFan (e : Ev) (f : FanId) (g : Fan → Fan) : Ev :=
  ((e.mapS fun s => s.updFan f g).markFan f).markStop

/-- Each zone a fan serves judged for UNVENTILATED (R126). -/
def Ev.judgeServed (e : Ev) (f : FanId) : Ev :=
  match e.s.fans.get f with
  | some x => x.served.foldl Ev.judgeVentilated e
  | none => e

/-- The state a fan takes when its command goes from `old` to `new` (R132). -/
def Fan.stateOnCommand (x : Fan) (new : Nat) : FanState :=
  match x.state with
  | .stopped => if x.command = 0 ∧ 0 < new then .starting else .stopped
  | .starting => if new = 0 then .stopping else .starting
  | .running => if new = 0 then .stopping else .running
  | .stopping => if x.command = 0 ∧ 0 < new then .starting else .stopping
  | st => st

/-- A fan's timers for the state it enters at `now`; they run on while the state stays (R132). -/
def Fan.enter (x : Fan) (st : FanState) (now : Nat) : Fan :=
  if st = x.state then x
  else
    { x with
      state := st
      startTimer := if st = .starting then some (now + Config.fanStartMs) else none
      stopTimer := if st = .stopping then some (now + Config.fanStopMs) else none }

/-- A fan's command takes `v`: the output record, and the fan's state by R132. A command equal to the
one held changes nothing. -/
def Ev.setFanCommand (e : Ev) (f : FanId) (v : Nat) : Ev :=
  match e.s.fans.get f with
  | none => e
  | some x =>
    if v = x.command then e
    else
      let now := e.s.now
      let e1 := (e.updFan f fun x => { x.enter (x.stateOnCommand v) now with command := v }).placeFan f
      if x.stateOnCommand v = x.state then e1 else e1.judgeServed f

end Sys2Proof.Machine
end

