-- ==== Sys2Proof/Machine/Supply.lean ====
section
/-!
DEFINITION. The Supply Limiter (spec/08_supply_limit.md): loads, classes, grants, the deferred set,
shedding and the over-limit flag.
-/

namespace Sys2Proof.Machine

/-! ### Loads (R156) -/

/-- The power of a fan at speed `s`: P_rated × s³ ÷ 1,000,000, rounded up. -/
def fanPower (pRated s : Nat) : Nat := (pRated * s ^ 3 + 999999) / 1000000

/-- The power of a group at level `v`: P_rated × v ÷ 100, rounded up. -/
def groupPower (pRated v : Nat) : Nat := (pRated * v + 99) / 100

/-- A fan's load: none in STOPPED and FAULT, the power of its command otherwise. -/
def Fan.load (x : Fan) : Nat :=
  match x.state with
  | .stopped => 0
  | .fault => 0
  | _ => fanPower x.pRated x.command

/-- A group's load: the power at its commanded level. -/
def Group.load (x : Group) : Nat := groupPower x.pRated x.commanded

/-- The committed load: the base load and the loads of every defined fan and group (R156). -/
def State.committed (s : State) : Nat :=
  s.supply.base +
    ((List.finRange 32).map fun f => match s.fans.get f with
      | some x => x.load
      | none => 0).sum +
    ((List.finRange 64).map fun g => match s.groups.get g with
      | some x => x.load
      | none => 0).sum

/-- A limit is active: in STANDBY always, in MAINS when it is above 0 (R154). -/
def State.limitActive (s : State) : Bool := s.supply.mode == .standby || 0 < s.supply.limit

/-- The headroom: the limit less the committed load (R156). -/
def State.headroom (s : State) : Int := (s.supply.limit : Int) - s.committed

/-! ### Classes (R157) -/

/-- The zone's overlay is PURGE. -/
def State.purged (s : State) (z : ZoneId) : Bool :=
  match s.zones.get z with
  | some x => match x.vent.overlay with
    | .purge _ => true
    | _ => false
  | none => false

/-- A fan's class: 1 while it serves a zone in PURGE, 3 otherwise (R157). -/
def State.fanClass (s : State) (x : Fan) : Nat := if x.served.any s.purged then 1 else 3

/-- A group's class: 2 in state FORCED, 4 otherwise (R157). -/
def Group.priority (x : Group) : Nat := if x.state = .forced then 2 else 4

/-! ### Deferred set (R160) -/

/-- A fan's entry in the deferred set replaced. -/
def Ev.deferFan (e : Ev) (f : FanId) (v : Option Nat) : Ev :=
  ((e.mapS fun s => { s with supply := { s.supply with deferredFans := put s.supply.deferredFans f v } }).markFan
    f).markStop

/-- A group's entry in the deferred set replaced. -/
def Ev.deferGroup (e : Ev) (g : GroupId) (v : Option Nat) : Ev :=
  e.mapS fun s => { s with supply := { s.supply with deferredGroups := put s.supply.deferredGroups g v } }

/-- A member of the deferred set. -/
inductive Member where
  | fan (f : FanId)
  | group (g : GroupId)
  deriving DecidableEq, Repr

/-- The fans of the deferred set in class `c`, lower numbers first. -/
def State.deferredFansOf (s : State) (c : Nat) : List Member :=
  (List.finRange 32).filterMap fun f =>
    match s.fans.get f, s.supply.deferredFans.get f with
    | some x, some _ => if s.fanClass x = c then some (.fan f) else none
    | _, _ => none

/-- The groups of the deferred set in class `c`, lower numbers first. -/
def State.deferredGroupsOf (s : State) (c : Nat) : List Member :=
  (List.finRange 64).filterMap fun g =>
    match s.groups.get g, s.supply.deferredGroups.get g with
    | some x, some _ => if x.priority = c then some (.group g) else none
    | _, _ => none

/-- The deferred set in its order: by class, and within a class by number (R160). -/
def State.deferredOrder (s : State) : List Member :=
  s.deferredFansOf 1 ++ s.deferredGroupsOf 2 ++ s.deferredFansOf 3 ++ s.deferredGroupsOf 4

/-- The number of members of the deferred set (R185). -/
def State.deferredCount (s : State) : Nat :=
  (s.supply.deferredFans.toList.filter Option.isSome).length +
    (s.supply.deferredGroups.toList.filter Option.isSome).length

/-! ### Changes the limiter makes -/

/-- The LIGHT station and channels that bind a group: its driver (R139). -/
def Binding.bindsGroup (b : Binding) (g : GroupId) : Bool :=
  match b with
  | .light channels _ => channels.toList.contains (some g)
  | _ => false

/-- The enabled LIGHT station that binds a group (R139). -/
def State.groupStation (s : State) (g : GroupId) : Option StationId :=
  (List.finRange 96).find? fun i => (s.stations.get i).enabled && (s.stations.get i).binding.bindsGroup g

/-- A group's driver is LOST: its station is, or, outside CONFIG, no enabled station binds it (R139). -/
def State.driverLost (s : State) (g : GroupId) : Bool :=
  match s.groupStation g with
  | some i => (s.stations.get i).state == .lost
  | none => s.part != .config

/-- The group's levels are placed in its driver's output record (R151). -/
def Ev.placeGroup (e : Ev) (g : GroupId) : Ev :=
  match e.s.groupStation g with
  | some i => e.markDirty i
  | none => e

/-- A group record changed by `f`. -/
def Ev.updGroup (e : Ev) (g : GroupId) (f : Group → Group) : Ev := e.mapS fun s => s.updGroup g f

/-- A group's commanded level takes `v` (R151). A level equal to the one held changes nothing. -/
def Ev.setGroupLevel (e : Ev) (g : GroupId) (v : Nat) : Ev :=
  match e.s.groups.get g with
  | none => e
  | some x =>
    if v = x.commanded then e else (e.updGroup g fun x => { x with commanded := v }).placeGroup g

/-! ### Grants (R158) -/

/-- The largest of c, c + 1, ..., c + n whose load, less the load at c, fits the room; c when none
does. -/
def largestFit (load : Nat → Nat) (c : Nat) (room : Int) : Nat → Nat
  | 0 => c
  | n + 1 =>
    if (load (c + (n + 1)) : Int) - load c ≤ room then c + (n + 1) else largestFit load c room n

/-- A request from `c` to `w` is granted in full: no limit is active, or the headroom holds the
increase (R158 step 1). -/
def State.fitsWhole (s : State) (load : Nat → Nat) (c w : Nat) : Bool :=
  !s.limitActive || (load w : Int) - load c ≤ s.headroom

/-- What the headroom holds of a fan's increase from `c` toward `w` (R158 step 2): a part of its minimum
speed leaves a fan at 0 there. -/
def State.fanFit (s : State) (x : Fan) (c w : Nat) : Nat :=
  let g := largestFit (fanPower x.pRated) c s.headroom (w - c)
  if c = 0 ∧ g < x.minSpeed then 0 else g

/-- What the headroom holds of a group's increase from `c` toward `w` (R158 step 2): a BASE group that
would stay below the standby floor keeps `c`. -/
def State.groupFit (s : State) (x : Group) (c w : Nat) : Nat :=
  let g := largestFit (groupPower x.pRated) c s.headroom (w - c)
  if x.state = .base ∧ g < s.supply.floor then c else g

/-- The grant to a fan at `c` that asks `w` (R158 steps 1 and 2). -/
def State.fanGrant (s : State) (x : Fan) (c w : Nat) : Nat :=
  if s.fitsWhole (fanPower x.pRated) c w then w else s.fanFit x c w

/-- The grant to a group at `c` that asks `w` (R158 steps 1 and 2). -/
def State.groupGrant (s : State) (x : Group) (c w : Nat) : Nat :=
  if s.fitsWhole (groupPower x.pRated) c w then w else s.groupFit x c w

/-! ### Shedding (R162) -/

/-- A group lowered to `v` by shedding: its fade stops unless it goes on below `v`, and it is deferred
with its wanted level when that is above `v` and its driver is not LOST. -/
def Ev.shedGroup (e : Ev) (g : GroupId) (v : Nat) : Ev :=
  match e.s.groups.get g with
  | none => e
  | some x =>
    let lost := e.s.driverLost g
    let e1 := e.setGroupLevel g v
    if lost then e1
    else if v < x.wanted then
      let kept := (e.s.supply.deferredGroups.get g).getD x.wanted
      (e1.updGroup g fun y => { y with movement := .rising, fadeTimer := none }).deferGroup g (some kept)
    else if v = x.wanted then e1.updGroup g fun y => { y with movement := .steady, fadeTimer := none }
    else e1

/-- A fan lowered to `v` by shedding, and deferred with its wanted speed when that is above `v` and its
station is not LOST. -/
def Ev.shedFan (e : Ev) (f : FanId) (v : Nat) : Ev :=
  match e.s.fans.get f with
  | none => e
  | some x =>
    let e1 := e.setFanCommand f v
    if x.state = .lost ∨ x.wanted ≤ v then e1
    else e1.deferFan f (some ((e.s.supply.deferredFans.get f).getD x.wanted))

/-- One group of pass 1: a class 4 group above the floor is lowered to it. -/
def Ev.shedPass1 (target : Int) (e : Ev) (g : GroupId) : Ev :=
  match e.s.groups.get g with
  | some x =>
    if target < e.s.committed ∧ x.priority = 4 ∧ e.s.supply.floor < x.commanded
    then e.shedGroup g e.s.supply.floor else e
  | none => e

/-- One fan of pass 2: a class 3 fan above its minimum speed is lowered to it. -/
def Ev.shedPass2 (target : Int) (e : Ev) (f : FanId) : Ev :=
  match e.s.fans.get f with
  | some x =>
    if target < e.s.committed ∧ e.s.fanClass x = 3 ∧ x.minSpeed < x.command then e.shedFan f x.minSpeed else e
  | none => e

/-- One fan of pass 3: a class 3 fan above 0 is lowered to 0. -/
def Ev.shedPass3 (target : Int) (e : Ev) (f : FanId) : Ev :=
  match e.s.fans.get f with
  | some x =>
    if target < e.s.committed ∧ e.s.fanClass x = 3 ∧ 0 < x.command then e.shedFan f 0 else e
  | none => e

/-- The three passes of shedding, highest numbers first, until the committed load is at most `target`
(R162). -/
def Ev.shedTo (e : Ev) (target : Int) : Ev :=
  let e1 := (List.finRange 64).reverse.foldl (Ev.shedPass1 target) e
  let e2 := (List.finRange 32).reverse.foldl (Ev.shedPass2 target) e1
  (List.finRange 32).reverse.foldl (Ev.shedPass3 target) e2

/-- Shedding meant to bring the committed load to the limit; when it ends above it, the over-limit flag
is set and SUPPLY_OVER raised (R162, R163; log entry 18). -/
def Ev.shedToLimit (e : Ev) : Ev :=
  let e1 := e.shedTo e.s.supply.limit
  if e1.s.headroom < 0 then
    (e1.mapS fun s => { s with supply := { s.supply with overLimit := true } }).raise .supplyOver 0
      (bytes3 e1.s.committed ++ bytes2 e1.s.supply.limit)
  else e1

/-- A limit is active and the committed load exceeds it. -/
def State.exceeds (s : State) : Bool := s.limitActive && s.headroom < 0

/-! ### Requests and service (R158, R159, R161, R164) -/

/-- A fan asks for `w` (R158): a class 1 request that does not fit sheds first (R159). The command takes
the grant, and a short grant defers the fan with `w`. -/
def Ev.askFan (e : Ev) (f : FanId) (w : Nat) : Ev :=
  match e.s.fans.get f with
  | none => e
  | some x =>
    let load := fanPower x.pRated
    let e1 := if !e.s.fitsWhole load x.command w && e.s.fanClass x = 1
      then e.shedTo ((e.s.supply.limit : Int) - ((load w : Int) - load x.command)) else e
    let g := e1.s.fanGrant x x.command w
    (e1.setFanCommand f g).deferFan f (if g < w then some w else none)

/-- A group asks for `w` (R145, R158): its level takes the grant, and a short grant defers it with `w`. -/
def Ev.askGroup (e : Ev) (g : GroupId) (w : Nat) : Ev :=
  match e.s.groups.get g with
  | none => e
  | some x =>
    let v := e.s.groupGrant x x.commanded w
    ((e.setGroupLevel g v).updGroup g fun y =>
        { y with movement := if v < w then .rising else .steady, fadeTimer := none }).deferGroup g
      (if v < w then some w else none)

/-- A member raised to `v`, which takes it out of the set when `v` is its deferred value `w` (R161, R164). -/
def Ev.raiseFan (e : Ev) (f : FanId) (v w : Nat) : Ev :=
  let e1 := e.setFanCommand f v
  if v = w then e1.deferFan f none else e1

/-- A group raised to `v`, which takes it out of the set when `v` is its deferred value `w` (R146, R161). -/
def Ev.raiseGroup (e : Ev) (g : GroupId) (v w : Nat) : Ev :=
  let e1 := e.setGroupLevel g v
  if v = w then (e1.updGroup g fun y => { y with movement := .steady }).deferGroup g none else e1

/-- The set served in order: each member is raised as far as R158 step 2 lets it, its minimum speed and
floor rules with it, and the first that is not raised to its deferred value ends the service (R161). -/
def Ev.serveList (e : Ev) : List Member → Ev
  | [] => e
  | .fan f :: rest =>
    match e.s.fans.get f, e.s.supply.deferredFans.get f with
    | some x, some w =>
      let v := e.s.fanFit x x.command w
      let e1 := e.raiseFan f v w
      if v = w then e1.serveList rest else e1
    | _, _ => e.serveList rest
  | .group g :: rest =>
    match e.s.groups.get g, e.s.supply.deferredGroups.get g with
    | some x, some w =>
      let v := e.s.groupFit x x.commanded w
      let e1 := e.raiseGroup g v w
      if v = w then e1.serveList rest else e1
    | _, _ => e.serveList rest

/-- The deferred set is served, while a limit is active and the headroom is above 0 (R156, R161). -/
def Ev.serve (e : Ev) : Ev :=
  if e.s.limitActive && 0 < e.s.headroom then e.serveList e.s.deferredOrder else e

/-- Every member raised to its deferred value, in the set's order: the end of an active limit (R164). -/
def Ev.raiseAll (e : Ev) : Ev :=
  e.s.deferredOrder.foldl (fun e m =>
    match m with
    | .fan f => match e.s.supply.deferredFans.get f with
      | some w => e.raiseFan f w w
      | none => e
    | .group g => match e.s.supply.deferredGroups.get g with
      | some w => e.raiseGroup g w w
      | none => e) e

/-- The over-limit flag is cleared when the committed load is at or below the limit, or no limit is
active (R163). -/
def State.judgeOver (s : State) : State :=
  if s.exceeds then s else { s with supply := { s.supply with overLimit := false } }

/-- The promoted fans of a purge entry that are in the deferred set are served at once as class 1
requests from their commands to their deferred values (R159). -/
def Ev.servePromoted (e : Ev) (promoted : List FanId) : Ev :=
  promoted.foldl (fun e f =>
    match e.s.supply.deferredFans.get f with
    | some w => e.askFan f w
    | none => e) e

/-- Set Supply (R155). -/
def setSupplyRequest (p : List Byte) (e : Ev) : Reply × Ev :=
  let e1 := e.mapS fun s =>
    { s with supply := { s.supply with
        mode := if u8 p 0 = 0 then .mains else .standby, limit := u16 p 1, base := u16 p 3, floor := u8 p 5 } }
  let e2 :=
    if !e1.s.limitActive then e1.raiseAll
    else if e1.s.exceeds then e1.shedToLimit
    else e1.serveList e1.s.deferredOrder
  let e3 := e2.mapS State.judgeOver
  judged [badLength p (p.length == 6), above p 0 0 1, above p 5 3 100] e
    (.done (bytes3 e3.s.committed ++ [flagByte e3.s.supply.overLimit]), e3)

end Sys2Proof.Machine
end

