-- ==== Sys2Proof/Machine/Lighting.lean ====
section
/-!
DEFINITION. The Lighting Unit (spec/07_lighting_groups.md): presence, group states, wanted and
commanded levels, lamp reports, driver loss and return, and the group requests.
-/

namespace Sys2Proof.Machine

/-! ### State and wanted level (R142, R144) -/

/-- A group's state, the first that applies (R142). -/
def State.groupState (s : State) (x : Group) : GroupState :=
  if s.purged x.zone || x.forcedCmd then .forced
  else if x.presenceTimer.isSome then .presence
  else if 0 < x.routeCount then .route
  else .base

/-- A group's wanted level from its state and the part state (R144). -/
def State.wantedLevel (s : State) (x : Group) : Nat :=
  match s.part with
  | .config => 0
  | .stopping => 100
  | _ =>
    if x.state = .forced then 100
    else max (if x.degraded then x.presenceLevel else x.baseLevel)
      (max (if x.state = .presence then x.presenceLevel else 0) (if 0 < x.routeCount then x.routeLevel else 0))

/-- A group's state derived again; in CONFIG no state is derived (R142). -/
def Ev.deriveState (e : Ev) (g : GroupId) : Ev :=
  let s := e.s
  if s.part = .config then e else e.updGroup g fun x => { x with state := s.groupState x }

/-- The group is in FORCED and its derivation takes it out (R148). -/
def State.leavesForced (s : State) (g : GroupId) : Bool :=
  match s.groups.get g with
  | some x => x.state == .forced && s.groupState x != .forced
  | none => false

/-- The states of groups derived again and their classes with them; a demotion, of one of them or of a
fan, while the committed load exceeds the limit makes shedding run (R148, R157; log entry 17). -/
def Ev.reclass (e : Ev) (gs : List GroupId) (fanDemoted : Bool) : Ev :=
  let demoted := fanDemoted || gs.any e.s.leavesForced
  let e1 := gs.foldl Ev.deriveState e
  if demoted && e1.s.exceeds then e1.shedToLimit else e1

/-! ### Commanded level (R145 to R147) -/

/-- A group's level set moving toward its wanted level: a rise is asked or its deferred value
reported, a fade begins or goes on, or the level is steady (R145, R146, R147). Nothing moves while the
driver is LOST (R150). -/
def Ev.moveLevel (e : Ev) (g : GroupId) : Ev :=
  match e.s.groups.get g with
  | none => e
  | some x =>
    if e.s.driverLost g then e
    else if x.commanded < x.wanted then
      if (e.s.supply.deferredGroups.get g).isSome then e.deferGroup g (some x.wanted)
      else e.askGroup g x.wanted
    else if x.wanted = x.commanded then
      (e.updGroup g fun y => { y with movement := .steady, fadeTimer := none }).deferGroup g none
    else if x.movement = .fading then e
    else
      let t := e.s.after Config.fadeMs
      (e.updGroup g fun y => { y with movement := .fading, fadeTimer := some t }).deferGroup g none

/-- A group's wanted level derived again; a level equal to the one held changes nothing, but a group
whose driver has returned moves in any case (R144, R150). -/
def Ev.deriveLevel (e : Ev) (g : GroupId) : Ev :=
  match e.s.groups.get g with
  | none => e
  | some x =>
    let w := if e.groups.contains g then e.s.wantedLevel x else x.wanted
    let e1 := if w = x.wanted then e else e.updGroup g fun y => { y with wanted := w }
    if w ≠ x.wanted ∨ e.resume.contains g then e1.moveLevel g else e1

/-- The groups of the event derived, in group number order: first every state, then every level (R142,
R148, R158). In CONFIG no group is derived. -/
def Ev.deriveGroups (e : Ev) : Ev :=
  if e.s.part = .config then e
  else
    let marked := (List.finRange 64).filter fun g => e.groups.contains g
    let moving := (List.finRange 64).filter fun g => e.groups.contains g || e.resume.contains g
    let e1 := if marked.isEmpty then e else e.reclass marked false
    { moving.foldl Ev.deriveLevel e1 with groups := [], resume := [] }

/-! ### Presence (R140) -/

/-- A presence event of a group: its presence timer starts or restarts; for a group that is not defined
it is discarded (R140). -/
def Ev.presence (e : Ev) (g : GroupId) : Ev :=
  match e.s.groups.get g with
  | none => e
  | some x =>
    let t := e.s.after (x.presenceHold * 1000)
    (e.updGroup g fun y => { y with presenceTimer := some t }).markGroup g

/-- The presence timer expires (R140). -/
def Ev.presenceExpiry (e : Ev) (g : GroupId) : Ev :=
  match (e.s.groups.get g).bind Group.presenceTimer with
  | none => e
  | some d => ((e.reach d).updGroup g fun y => { y with presenceTimer := none }).markGroup g

/-- The fade timer expires: the level falls by the fade step, and the fall is reported (R147). -/
def Ev.fadeExpiry (e : Ev) (g : GroupId) : Ev :=
  match e.s.groups.get g with
  | none => e
  | some x =>
    match x.fadeTimer with
    | none => e
    | some d =>
      let v := max x.wanted (x.commanded - x.fadeStep)
      let e1 := (e.reach d).setGroupLevel g v
      let t := e1.s.after Config.fadeMs
      let e2 := e1.updGroup g fun y =>
        if v = x.wanted then { y with movement := .steady, fadeTimer := none } else { y with fadeTimer := some t }
      e2.serve

/-! ### LIGHT reports, loss and return (R140, R149, R150) -/

/-- The groups of a station's channels, each once, in group number order. -/
def Binding.channelGroups (b : Binding) : List GroupId := (List.finRange 64).filter fun g => b.bindsGroup g

/-- A channel's report recorded in the group it is bound to. -/
def lampOf (b : Binding) (g : GroupId) (failed : Byte) (old : Option LampReport) (c : Fin 8) : Option LampReport :=
  match b with
  | .light channels _ =>
    if channels.get c = some g then (if bitAt failed c then some .failed else some .ok) else old
  | _ => old

/-- The lamp reports of a LIGHT reply for one group (R149). -/
def Ev.lampReport (e : Ev) (b : Binding) (failed : Byte) (g : GroupId) : Ev :=
  match e.s.groups.get g with
  | none => e
  | some x =>
    let lamps : Vector (Option LampReport) 8 := Vector.ofFn fun c => lampOf b g failed (x.lamps.get c) c
    let n := (lamps.toList.filter (· == some .failed)).length
    let degraded : Bool := x.tolerance ≤ n
    let e1 := e.updGroup g fun y => { y with lamps := lamps, failedCount := n, degraded := degraded }
    let e2 := if n = x.failedCount then e1 else e1.raise .lampFault g.val [byte n, flagByte degraded]
    if degraded = x.degraded then e2 else e2.markGroup g

/-- A motion input of the group reports MOTION. -/
def motionOf (b : Binding) (motion : Byte) (g : GroupId) : Bool :=
  match b with
  | .light _ inputs => (List.finRange 8).any fun i => inputs.get i == some g && bitAt motion i
  | _ => false

/-- The report of a LIGHT station: FAILED channels, then MOTION inputs (R140, R149). -/
def Ev.lightReport (e : Ev) (b : Binding) (payload : List Byte) : Ev :=
  let e1 := b.channelGroups.foldl (fun e g => e.lampReport b (payload.getD 0 0) g) e
  (List.finRange 64).foldl (fun e g => if motionOf b (payload.getD 1 0) g then e.presence g else e) e1

/-- The groups of a LIGHT station that becomes LOST (R150). -/
def Ev.lightLost (e : Ev) (b : Binding) : Ev :=
  b.channelGroups.foldl (fun e g =>
    (e.updGroup g fun y => { y with movement := .steady, fadeTimer := none }).deferGroup g none) e

/-- The groups of a LIGHT station that returns: the kept levels are placed in the output record again,
and they rise or fade at the end of the event (R150). -/
def Ev.lightReturn (e : Ev) (b : Binding) : Ev :=
  b.channelGroups.foldl (fun e g => (e.placeGroup g).markResume g) e

/-! ### Requests (R138, R143, R153) -/

/-- A group's dynamic values on entry to CONFIG (R137). -/
def Group.toConfig (x : Group) : Group :=
  { x with presenceTimer := none, routeCount := 0, lamps := Vector.replicate 8 none, failedCount := 0
           degraded := false, state := .base, wanted := 0, commanded := 0, movement := .steady
           fadeTimer := none }

/-- A group defined for the first time (R137). -/
def Group.new (zone : ZoneId) (pRated baseLevel presenceLevel routeLevel presenceHold fadeStep tolerance : Nat) :
    Group :=
  { zone := zone, pRated := pRated, baseLevel := baseLevel, presenceLevel := presenceLevel
    routeLevel := routeLevel, presenceHold := presenceHold, fadeStep := fadeStep, tolerance := tolerance
    forcedCmd := false, presenceTimer := none, routeCount := 0, lamps := Vector.replicate 8 none
    failedCount := 0, degraded := false, state := .base, wanted := 0, commanded := 0, movement := .steady
    fadeTimer := none }

/-- The configured fields of a Define Group payload, the defaults of R137 in the short form. The full
form carries every field of R137 in order (R138), 11 bytes (log entry 37). -/
def groupOf (p : List Byte) : Group :=
  let z : ZoneId := toFin 24 (u8 p 1)
  if p.length = 11 then Group.new z (u16 p 2) (u8 p 4) (u8 p 5) (u8 p 6) (u16 p 7) (u8 p 9) (u8 p 10)
  else Group.new z (u16 p 2) 20 100 80 300 5 2

/-- A field outside a range with a least value. -/
def outside (lo hi v idx : Nat) : Bool × Rejection := (v < lo || hi < v, ⟨.range, idx, v⟩)

/-- A route entry's group list names the group (R138). -/
def State.routed (s : State) (g : GroupId) : Bool :=
  s.routes.toList.any fun r => match r with
    | some r => r.groups.contains g
    | none => false

/-- Define Group (R138). -/
def defineGroupRequest (p : List Byte) (e : Ev) : Reply × Ev :=
  let g : GroupId := toFin 64 (u8 p 0)
  let removal := p.length == 1
  let ranges : List (Bool × Rejection) :=
    if removal then []
    else
      [above p 1 1 23, outside 1 1000 (u16 p 2) 2] ++
        if p.length = 4 then []
        else [outside 5 50 (u8 p 4) 3, outside 5 100 (u8 p 5) 4, outside 5 100 (u8 p 6) 5,
          outside 30 1800 (u16 p 7) 6, outside 1 20 (u8 p 9) 7, outside 1 8 (u8 p 10) 8]
  let new : Group := match e.s.groups.get g with
    | some old => { groupOf p with forcedCmd := old.forcedCmd }
    | none => groupOf p
  judged ([badLength p (p.length == 1 || p.length == 4 || p.length == 11), wrongState e.s (e.s.part != .config),
      above p 0 0 63] ++ ranges ++
      [(!removal && (e.s.zones.get (toFin 24 (u8 p 1))).isNone, ⟨.noObject, 1, u8 p 1⟩),
       (removal && e.s.routed g, ⟨.conflict, 0, u8 p 0⟩)]) e
    (.done [], e.mapS fun s => s.setGroup g (if removal then none else some new))

/-- NO_OBJECT for a group that is not defined. -/
def groupMissing (s : State) (p : List Byte) : Bool × Rejection :=
  ((s.groups.get (toFin 64 (u8 p 0))).isNone, ⟨.noObject, 0, u8 p 0⟩)

/-- Force Group (R143). -/
def forceGroupRequest (p : List Byte) (e : Ev) : Reply × Ev :=
  let g : GroupId := toFin 64 (u8 p 0)
  let e1 := e.updGroup g fun x => { x with forcedCmd := u8 p 1 == 1 }
  judged [badLength p (p.length == 2), above p 0 0 63, above p 1 1 1, groupMissing e.s p] e
    (.done [], if e.s.part = .config then e1 else e1.markGroup g)

/-- A group's driver state, coded as a station state; not yet polled is coded as the ACTIVE of a
station not yet polled (R139, R165; log entry 28). -/
def State.driverCode (s : State) (g : GroupId) : Nat :=
  match s.groupStation g with
  | some i => (s.stations.get i).state.code
  | none => if s.part = .config then StationState.active.code else StationState.lost.code

/-- The report of Read Group (R153). The seconds of a stopped presence timer and the deferred level of
a group not in the set are free bytes (log entry 6). Forced by command is the group's flag in every part state,
and forced by purge is clear in CONFIG: the model's choice, log entry 41. -/
def groupReportBytes (s : State) (g : GroupId) (x : Group) : List Byte :=
  let st := s.groupStation g
  let b : Binding := match st with
    | some i => (s.stations.get i).binding
    | none => .none
  let channels := maskByte fun c => match b with
    | .light ch _ => ch.get c == some g
    | _ => false
  let motion := maskByte fun i => match b with
    | .light _ m => m.get i == some g
    | _ => false
  let purge := s.part != .config && s.purged x.zone
  let seconds : List Byte := match x.presenceTimer with
    | some d => bytes2 (s.secondsTo d)
    | none => [s.freeByte 0, s.freeByte 1]
  let deferred : List Byte := match s.supply.deferredGroups.get g with
    | some v => [1, byte v]
    | none => [0, s.freeByte 2]
  [byte g.val, byte x.zone.val] ++ bytes2 x.pRated ++ [byte x.baseLevel, byte x.presenceLevel, byte x.routeLevel] ++
    bytes2 x.presenceHold ++ [byte x.fadeStep, byte x.tolerance, flagByte x.forcedCmd, stationByte st,
      byte (s.driverCode g), channels, motion, byte x.state.code,
      byte (bitIf purge 1 + bitIf x.forcedCmd 2)] ++ seconds ++
    [byte x.routeCount, byte x.wanted, byte x.commanded, byte x.movement.code] ++ deferred ++
    bytes2 x.load ++ [byte x.priority] ++ x.lamps.toList.map (fun r => byte (LampReport.code r)) ++
    [byte x.failedCount, flagByte x.degraded]

/-- Read Group (R153). -/
def readGroupRequest (p : List Byte) (e : Ev) : Reply × Ev :=
  let g : GroupId := toFin 64 (u8 p 0)
  judged [badLength p (p.length == 1), above p 0 0 63, groupMissing e.s p] e
    (.done (match e.s.groups.get g with
      | some x => groupReportBytes e.s g x
      | none => []), e.drawn)

end Sys2Proof.Machine
end

