-- ==== Sys2Proof/Machine/Panels.lean ====
section
/-!
DEFINITION. The Panel Unit (spec/04_sign_panels_and_routes.md): wanted content, the update handshake,
loss and return, and Define Panel.
-/

namespace Sys2Proof.Machine

/-! ### Wanted content (R78 to R81) -/

/-- The net free count of a zone's masked buckets, a difference below 0 counting as 0 (R79). -/
def State.maskedFree (s : State) (mask : BitVec 8) (z : ZoneId) : Nat :=
  ((List.finRange 8).map fun b => if mask.getLsbD b.val then (s.netFree z b).toNat else 0).sum

/-- The zone's guidance state is CLOSED. -/
def State.zoneClosed (s : State) (z : ZoneId) : Bool :=
  match s.zones.get z with
  | some x => x.guidance == .closed
  | none => false

/-- The wanted content of a COUNT panel (R79). -/
def State.countContent (s : State) (zones : List ZoneId) (mask : BitVec 8) : Content :=
  let value := min 999 (zones.map (s.maskedFree mask)).sum
  if zones.all s.zoneClosed then .countClosed
  else if value = 0 then .countFull
  else .countNumber value

/-- One entry of a ZONE_ARROW panel (R80). -/
def State.arrowEntry (s : State) (mask : BitVec 8) (f : ZoneId × Arrow) : ArrowEntry :=
  if s.zoneClosed f.1 then .closed
  else if s.maskedFree mask f.1 = 0 then .full
  else .arrow f.2

/-- The level of a bucket: b ÷ 2 rounded down (R81). -/
def bucketLevel (b : Bucket) : AccessLevel := ⟨b.val / 2, by omega⟩

/-- The wanted content of a LANE panel (R81). -/
def Lane.content (x : Lane) : Content :=
  match x.queue with
  | [] => .laneBlank
  | { state := .waiting, .. } :: _ => .laneWait
  | { state := .noSpace, .. } :: _ => .laneFull
  | { state := .assigned z b _, .. } :: _ => .laneZone z (bucketLevel b)

/-- The content a panel of a kind ought to show: none for kind NONE (R76, R79 to R81). -/
def State.contentOf (s : State) : PanelKind → Option Content
  | .none => none
  | .count zones mask => some (s.countContent zones mask)
  | .zoneArrow fields mask => some (.arrows (fields.map (s.arrowEntry mask)))
  | .lane l => some (s.lanes.get l).content

/-- A panel derived again: its wanted content takes the result (R78). -/
def Ev.derivePanel (e : Ev) (i : PanelId) : Ev :=
  e.mapS fun s => s.updPanel i fun x => { x with wanted := s.contentOf x.kind }

/-- The event changed something the panel reads (R78). -/
def PanelKind.touched (k : PanelKind) (e : Ev) : Bool :=
  match k with
  | .none => false
  | .count zones _ => zones.any e.panelZones.contains
  | .zoneArrow fields _ => fields.any fun f => e.panelZones.contains f.1
  | .lane l => e.panelLanes.contains l

/-- The panels of the event derived, once each, when its other work is done; none in CONFIG (R78). -/
def Ev.derivePanels (e : Ev) : Ev :=
  if e.s.part = .config then e
  else
    (List.finRange 32).foldl (fun e' i =>
      if e.panelsAll || (e.s.panels.get i).kind.touched e then e'.derivePanel i else e') e

/-! ### The output record of a SIGN station (R82, R83) -/

/-- The content expected to be shown; `none` is "unknown" (R82). -/
def Panel.expected (x : Panel) : Option Content :=
  match x.inFlight with
  | some (c, _) => some c
  | none => x.shown

/-- The panel's output record is dirty (R82): computed, so that it is judged in every event. -/
def Panel.dirty (x : Panel) : Bool := x.wanted.isSome && x.wanted != x.expected

/-- The enabled SIGN station that binds a panel (R76). -/
def State.panelStation (s : State) (i : PanelId) : Option StationId :=
  (List.finRange 96).find? fun j => (s.stations.get j).enabled && (s.stations.get j).binding == .sign i

/-- The tag of a last report that is READY. -/
def PanelReport.tag : PanelReport → Option Byte
  | .ready t => some t
  | _ => Option.none

/-- A dirty panel of a station that is not LOST is ready to send (R83). -/
def Panel.readyToSend (x : Panel) : Bool :=
  x.dirty && x.lastReport.tag.isSome && x.inFlight.isNone && x.holdOff.isNone

/-- The update a command to the panel carries: the wanted content under the tag that follows the one of
its last READY (R83). -/
def Panel.update (x : Panel) : Option (Content × Byte) :=
  match x.wanted, x.lastReport with
  | some c, .ready t => some (c, t + 1)
  | _, _ => none

/-! ### Replies, loss and return (R84 to R86, R88, R89) -/

/-- The command that carried an update ended without a good reply (R84). -/
def Panel.abandon (x : Panel) : Panel := { x with inFlight := none }

/-- The command that carried an update was acknowledged (R84). -/
def Panel.acknowledged (x : Panel) : Panel := { x with lastReport := .busy }

/-- The content is COUNT's: the panel has a hold-off timer (R76). -/
def PanelKind.isCount : PanelKind → Bool
  | .count _ _ => true
  | _ => false

/-- A READY report with tag `t` at `now` (R85, R86). -/
def Panel.ready (x : Panel) (t : Byte) (now : Nat) : Panel :=
  let y : Panel := { x with lastReport := .ready t }
  match x.inFlight with
  | some (c, u) =>
    if t = u then
      { y with
        shown := some c, shownTag := some u, inFlight := none
        holdOff := if x.kind.isCount then some (now + Config.holdOffMs) else x.holdOff }
    else if x.shownTag = some t then { y with inFlight := none }
    else { y with inFlight := none, shown := none, shownTag := none }
  | none =>
    if x.shownTag = some t ∨ x.shownTag = none then y
    else { y with shown := none, shownTag := none }

/-- A good poll reply of a panel's station: BUSY 0 or READY 1, and the tag (R85). -/
def Panel.report (x : Panel) (payload : List Byte) (now : Nat) : Panel :=
  if payload.getD 0 0 = 0 then { x with lastReport := .busy } else x.ready (payload.getD 1 0) now

/-- The panel's station becomes LOST (R89). -/
def Panel.lost (x : Panel) : Panel := { x with inFlight := none, lastReport := .none }

/-- The panel's station returns, before its reply is taken (R89). -/
def Panel.returned (x : Panel) : Panel := { x with shown := none, shownTag := none, holdOff := none }

/-- A panel's dynamic values on entry to CONFIG (R76). -/
def Panel.toConfig (x : Panel) : Panel := { Panel.reset with kind := x.kind }

/-- A panel record changed by `f`. -/
def Ev.updPanel (e : Ev) (i : PanelId) (f : Panel → Panel) : Ev := e.mapS fun s => s.updPanel i f

/-- The hold-off timer expires (R88). -/
def Ev.holdOffExpiry (e : Ev) (i : PanelId) : Ev :=
  match (e.s.panels.get i).holdOff with
  | none => e
  | some d => (e.reach d).updPanel i fun x => { x with holdOff := none }

/-! ### Define Panel (R77) -/

/-- The panel kind a Define Panel payload gives. -/
def panelKindOf (p : List Byte) : PanelKind :=
  let n := u8 p 4
  let zone (j : Nat) : ZoneId := toFin 24 (u8 p (5 + 2 * j))
  match u8 p 1 with
  | 1 => .count ((List.range n).map zone) (p.getD 3 0)
  | 2 => .zoneArrow ((List.range n).map fun j => (zone j, Arrow.ofCode (u8 p (6 + 2 * j)))) (p.getD 3 0)
  | 3 => .lane (toFin 8 (u8 p 2))
  | _ => .none

/-- Another panel of kind LANE names the lane (R77). -/
def State.laneTaken (s : State) (l : LaneId) (i : PanelId) : Bool :=
  (List.finRange 32).any fun j => j != i && (s.panels.get j).kind == .lane l

/-- The zone of pair `j` stands in an earlier pair. -/
def pairRepeated (p : List Byte) (j : Nat) : Bool :=
  (List.range j).any fun k => u8 p (5 + 2 * k) == u8 p (5 + 2 * j)

/-- Define Panel (R77). In a REJECT the zone of pair `j` is field 5 + 2j and its arrow field 6 + 2j
(log entry 12). -/
def definePanelRequest (p : List Byte) (e : Ev) : Reply × Ev :=
  let i : PanelId := toFin 32 (u8 p 0)
  let l : LaneId := toFin 8 (u8 p 2)
  let n := u8 p 4
  let zoned := u8 p 1 == 1 || u8 p 1 == 2
  let arrowed := u8 p 1 == 2
  let laned := u8 p 1 == 3
  let pairs : List Nat := if zoned then List.range (min n 4) else []
  judged ([badLength p (p.length == 13), wrongState e.s (e.s.part != .config), above p 0 0 31, above p 1 1 3,
      (laned && 7 < u8 p 2, ⟨.range, 2, u8 p 2⟩), (zoned && u8 p 3 == 0, ⟨.range, 3, 0⟩),
      (zoned && (n == 0 || 4 < n), ⟨.range, 4, n⟩)] ++
      pairs.flatMap (fun j => [above p (5 + 2 * j) (5 + 2 * j) 23,
        (arrowed && 4 < u8 p (6 + 2 * j), ⟨.range, 6 + 2 * j, u8 p (6 + 2 * j)⟩)]) ++
      pairs.map (fun j => zoneMissing e.s p (5 + 2 * j) (5 + 2 * j)) ++
      [(laned && (e.s.lanes.get l).direction == .none, ⟨.noObject, 2, u8 p 2⟩)] ++
      pairs.map (fun j => (pairRepeated p j, ⟨.conflict, 5 + 2 * j, u8 p (5 + 2 * j)⟩)) ++
      [(laned && (e.s.lanes.get l).direction == .exit, ⟨.conflict, 2, u8 p 2⟩),
       (laned && e.s.laneTaken l i, ⟨.conflict, 2, u8 p 2⟩)]) e
    (.done [], e.updPanel i fun x => { x with kind := panelKindOf p })

end Sys2Proof.Machine
end

