-- ==== Sys2Proof/Machine/Occupancy.lean ====
section
/-!
DEFINITION. The Occupancy Unit (spec/02_occupancy_and_zone_counts.md): concentrator inputs, occupancy,
disagreement and what a change hands on; Load Slots (R16 to R19), and the recount's row step (R26, R27).
-/

namespace Sys2Proof.Machine

/-! ### Inputs and occupancy (R29 to R35) -/

/-- The bay that an input bound to `a` reports on, and whether it is the bay's secondary input (R29). -/
def State.inputBay (s : State) (a : Addr) : Option (Addr × Bool) :=
  match s.stage a with
  | .slot (.bay _) => some (a, false)
  | .slot (.aliasTo t) => some (t, true)
  | _ => none

/-- An input state written into the bay it drives (R29, R31). -/
def State.writeInput (s : State) (a : Addr) (v : Occ) : State :=
  match s.inputBay a with
  | some (own, true) => s.updBay own fun b => { b with secondary := some v }
  | some (own, false) => s.updBay own fun b => { b with primary := some v }
  | none => s

/-- The occupancy that two input states give (R33). -/
def occupancyOf (primary secondary : Option Occ) : Occ :=
  if primary = some .occupied ∨ secondary = some .occupied then .occupied
  else if primary = some .free ∨ secondary = some .free then .free
  else .unknown

/-- The disagree condition: both input states known, and different (R34). -/
def Bay.disagrees (b : Bay) : Bool :=
  match b.primary, b.secondary with
  | some .free, some .occupied => true
  | some .occupied, some .free => true
  | _, _ => false

/-- The disagree condition tested at a write (R34). A timer that has expired counts as stopped here, so a
write that finds the condition still fulfilled starts it again: the model's choice, log entry 52. -/
def Bay.testDisagree (b : Bay) (now : Nat) : Bay :=
  if b.disagrees then
    { b with disagreeTimer := some (b.disagreeTimer.getD (now + Config.disagreeMs)) }
  else { b with disagreeTimer := none, disagree := false }

/-- The history bits and the occupancy of a change at the bay `a` (R12, R38). -/
def State.markHistory (s : State) (a : Addr) (v : Occ) : State :=
  let s1 := s.updBay a fun b => { b with occ := v, changed := true, visited := b.visited || v == .occupied }
  if v = .occupied then
    { s1 with
      rows := modify s1.rows a.rowKey fun r => { r with visited := true }
      levels := modify s1.levels a.level fun l => { l with visited := true } }
  else s1

/-- The bay at `a` takes occupancy `v`, which differs from its own: counts, guidance, movement and
presence (R38 to R42). -/
def Ev.changeOcc (e : Ev) (a : Addr) (v : Occ) : Ev :=
  match e.s.bayAt a with
  | none => e
  | some b =>
    let before := e.s
    let e1 := e.mapS fun s => (s.markHistory a v).recountBay a
    let k := match e1.s.bayAt a with
      | some y => y.counted
      | none => b.counted
    let e2 := (e1.handover before b.counted k (v == .occupied)).movement b.zone
    match b.group with
    | some g => e2.presence g
    | none => e2

/-- The bay at `a` judged after its inputs were written: disagreement and occupancy (R31, R33, R34). -/
def Ev.judgeBay (e : Ev) (a : Addr) : Ev :=
  let now := e.s.now
  let e1 := e.mapS fun s => s.updBay a fun b => b.testDisagree now
  match e1.s.bayAt a with
  | none => e1
  | some b =>
    let v := occupancyOf b.primary b.secondary
    if v = b.occ then e1 else e1.changeOcc a v

/-- The input states of a concentrator written as one event: every input first, then each bay once, in
the order of its lowest input (R31). `v` gives the state each input takes. -/
def Ev.writeInputs (e : Ev) (inputs : Vector (Option Addr) 16) (v : Fin 16 → Occ) : Ev :=
  let bound := (List.finRange 16).filterMap fun i => (inputs.get i).map fun a => (a, v i)
  let bays := (bound.filterMap fun x => (e.s.inputBay x.1).map Prod.fst).foldl addOnce []
  let e1 := e.mapS fun s => bound.foldl (fun s x => s.writeInput x.1 x.2) s
  bays.foldl Ev.judgeBay e1

/-- A good poll reply of a BAY station (R31). -/
def Ev.bayReport (e : Ev) (inputs : Vector (Option Addr) 16) (payload : List Byte) : Ev :=
  e.writeInputs inputs fun i => Occ.ofReport (u8 payload i.val)

/-- A BAY station becomes LOST: every bound input is UNKNOWN (R32). -/
def Ev.bayLost (e : Ev) (inputs : Vector (Option Addr) 16) : Ev := e.writeInputs inputs fun _ => .unknown

/-- The disagree timer of the bay at `a` expires (R35; log entry 32). It stands stopped from then on, the
disagree flag set: the model's choice, log entry 52. -/
def Ev.disagreeExpiry (e : Ev) (a : Addr) : Ev :=
  match e.s.bayAt a with
  | none => e
  | some b =>
    match b.disagreeTimer with
    | none => e
    | some d =>
      ((e.reach d).mapS fun s => s.updBay a fun x => { x with disagreeTimer := none, disagree := true }).raise
        .bayDisagree a.linear [byte (inputCode b.primary), byte (inputCode b.secondary)]

/-! ### Load Slots (R16 to R19, R43) -/

/-- A BAY descriptor on the bay at `a` in STARTING and RUN (R19, R43). -/
def Ev.rewriteBay (e : Ev) (a : Addr) (d : List Byte) : Ev :=
  match e.s.bayAt a with
  | none => e
  | some b =>
    let (zone, bl, strict, closed, group) := descBay d
    let e1 := e.mapS fun s => (s.updBay a fun x => x.configure zone bl strict closed group).recountBay a
    let k := match e1.s.bayAt a with
      | some y => y.counted
      | none => b.counted
    e1.handover e.s b.counted k false

/-- A descriptor that passed its checks applied to the slot at `a` (R18, R19). -/
def Ev.loadSlot (e : Ev) (a : Addr) (d : List Byte) : Ev :=
  if e.s.part = .config then e.mapS fun s => s.applyDescriptor a d
  else if u8 d 0 = 1 then e.rewriteBay a d
  else e

/-- The descriptors taken in order from number `idx` on, up to the first that is refused (R16). -/
def loadDescriptors : List (List Byte) → Nat → Ev → Reply × Ev
  | [], idx, e => (.done ([byte idx] ++ cursorBytes e.s.cursor), e)
  | d :: rest, idx, e =>
    match firstFail (descriptorChecks e.s d idx), e.s.cursor with
    | some r, _ => (.reject r, e)
    | none, some a => loadDescriptors rest (idx + 1) ((e.loadSlot a d).mapS State.advanceCursor)
    | none, none => (.reject ⟨.cursorEnd, idx, u8 d 0⟩, e)

/-- Load Slots (R16). -/
def loadSlotsRequest (p : List Byte) (e : Ev) : Reply × Ev :=
  let n := p.length / 8
  judged [badLength p (p.length % 8 == 0 && 1 ≤ n && n ≤ 24), wrongState e.s (e.s.part == .stopping)] e
    (loadDescriptors (descriptors n p) 0 e)

/-! ### The recount's row step (R26, R27) -/

/-- Completion: the shadow counts are adopted, the Guidance Unit trims and assigns, every panel is
derived, RECOUNT_DONE is raised and the entry to RUN is judged (R27, R187). -/
def Ev.completeRecount (e : Ev) (restarts : Nat) : Ev :=
  let e1 := (e.mapS State.adoptShadow).recountHandover
  { (e1.raise .recountDone 0 [byte restarts]).markRun with panelsAll := true }

/-- The recount takes its next row step; nothing while it is IDLE (R26; log entry 4). -/
def Ev.rowStep (e : Ev) : Ev :=
  match e.s.recount with
  | .idle => e
  | .scanning k n =>
    let e1 := e.mapS fun s => s.scanRow k
    if k.val = 255 then e1.completeRecount n
    else e1.mapS fun s => { s with recount := .scanning (k + 1) n }

end Sys2Proof.Machine
end

