-- ==== Sys2Proof/Machine/Air.lean ====
section
/-!
DEFINITION. The Air Unit (spec/05_air_quality_measurement.md): readings, instants and validity,
averages, the alarm, advisory and clear tests, the zone profile and Define Zone.
-/

namespace Sys2Proof.Machine

/-! ### Readings and heads (R91 to R95) -/

/-- The reading that a good GAS reply gives: CO (2), NO2 (2), status (R92). -/
def readingOf (payload : List Byte) : Reading :=
  let co := u16 payload 0
  let no2 := u16 payload 2
  { present := true, co := min co 500, no2 := min no2 200, status := HeadStatus.ofCode (u8 payload 4)
    saturated := 500 < co || 200 < no2 }

/-- The station is a head of the zone: an enabled GAS station bound to it (R91, R95). -/
def Station.isHead (x : Station) (z : ZoneId) : Bool := x.enabled && x.binding == .gas z

/-- The head is valid (R93). -/
def Station.headValid (x : Station) : Bool :=
  x.reading.present && x.reading.status == .ok && x.state != .lost

/-- The heads of a zone, in station order. -/
def State.heads (s : State) (z : ZoneId) : List StationId :=
  (List.finRange 96).filter fun i => (s.stations.get i).isHead z

/-- The stations of a zone's valid heads. -/
def State.validHeads (s : State) (z : ZoneId) : List Station :=
  (s.stations.toList.filter fun x => x.isHead z).filter Station.headValid

/-- A zone is SENSED while an enabled GAS station binds it (R95). -/
def State.sensed (s : State) (z : ZoneId) : Bool := s.stations.toList.any fun x => x.isHead z

/-- The validity count (R94); 0 for an UNSENSED zone (log entry 26). -/
def State.validity (s : State) (z : ZoneId) : Nat := (s.validHeads z).length

/-- The CO instant, while the validity count is above 0 (R94). -/
def State.coInstant (s : State) (z : ZoneId) : Nat :=
  (s.validHeads z).foldl (fun m x => max m x.reading.co) 0

/-- The NO2 instant, while the validity count is above 0 (R94). -/
def State.no2Instant (s : State) (z : ZoneId) : Nat :=
  (s.validHeads z).foldl (fun m x => max m x.reading.no2) 0

/-! ### Averages and conditions (R103, R105 to R107) -/

/-- A short average after an evaluation with instant `i` (R103). -/
def shortAverage (a i : Nat) : Nat := (7 * a + 16 * i) / 8

/-- A long average after an evaluation with instant `i` (R103). -/
def longAverage (l i : Nat) : Nat := (63 * l + 16 * i) / 64

/-- The averages brought up to date from the validity count and the instants (R103). -/
def Air.average (a : Air) (valid co no2 : Nat) : Air :=
  if valid = 0 then a
  else if a.seeded then
    { a with
      aCo := shortAverage a.aCo co, lCo := longAverage a.lCo co
      aNo2 := shortAverage a.aNo2 no2, lNo2 := longAverage a.lNo2 no2 }
  else { a with seeded := true, aCo := 16 * co, lCo := 16 * co, aNo2 := 16 * no2, lNo2 := 16 * no2 }

/-- The alarm condition (R105). -/
def Air.alarmHolds (a : Air) (p : Profile) : Bool :=
  a.seeded && (16 * p.co.alarm ≤ a.aCo || 16 * p.no2.alarm ≤ a.aNo2)

/-- The clear condition (R107). -/
def Air.clearHolds (a : Air) (p : Profile) : Bool :=
  a.seeded && (a.aCo < 16 * p.co.clear && a.aNo2 < 16 * p.no2.clear)

/-- The level below which a gas clears the advisory flag (R106). -/
def advisoryClear (advisory : Nat) : Nat := 16 * (advisory * 4 / 5)

/-- The advisory flag after its test (R106). -/
def Air.advisoryAfter (a : Air) (p : Profile) : Bool :=
  if !a.seeded then a.advisory
  else if 16 * p.co.advisory ≤ a.lCo ∨ 16 * p.no2.advisory ≤ a.lNo2 then true
  else if a.lCo < advisoryClear p.co.advisory ∧ a.lNo2 < advisoryClear p.no2.advisory then false
  else a.advisory

/-- The Air Unit's part of an evaluation in one zone record (R102): the pending profile adopted, then for
a SENSED zone the averages and the tests. -/
def Zone.airStep (x : Zone) (sensed : Bool) (valid co no2 : Nat) : Zone :=
  let p := x.pendingProfile.getD x.profile
  let y : Zone := { x with profile := p, pendingProfile := none }
  if sensed then
    let a := x.air.average valid co no2
    { y with air := { a with
        alarm := a.alarmHolds p, clear := a.clearHolds p, advisory := a.advisoryAfter p, evaluated := true } }
  else { y with air := { x.air with evaluated := true } }

/-- The Air Unit's part of a zone evaluation, a change of the advisory flag handed to the Guidance Unit
(R102). -/
def Ev.airStep (e : Ev) (z : ZoneId) : Ev :=
  let s := e.s
  e.guide z fun x => x.airStep (s.sensed z) (s.validity z) (s.coInstant z) (s.no2Instant z)

/-- A reading at or above a peak level of the profile in effect (R96). -/
def Reading.trips (r : Reading) (p : Profile) : Bool := p.co.peak ≤ r.co || p.no2.peak ≤ r.no2

/-! ### Define Zone (R98 to R100) -/

/-- The air record of a zone configured for the first time, and on entry to CONFIG (R101). -/
def Air.reset : Air := ⟨false, 0, 0, 0, 0, false, false, false, false⟩

/-- The ventilation record of a newly configured zone (R109). -/
def Vent.reset (p : Profile) : Vent :=
  { base := p.programme, manualValue := p.manualValue, overlay := .none, blindPending := false
    minPurgeTimer := none, runOut := false, durationTimer := none, e := 0, m := 0, dCo := 0, dNo2 := 0
    dTraffic := 0, demand := 0, ventilating := false, z := 0, evalTimer := none }

/-- A zone configured for the first time (R47, R98). -/
def Zone.new (p : Profile) : Zone :=
  { profile := p, pendingProfile := none, causes := ⟨false, false, false⟩, air := Air.reset, vent := Vent.reset p }

/-- The dynamic values a zone takes on entry to CONFIG (R47, R100, R101, R109): the pending profile is
adopted and the cause COMMANDED kept. -/
def Zone.toConfig (x : Zone) : Zone :=
  { Zone.new (x.pendingProfile.getD x.profile) with causes := ⟨x.causes.commanded, false, false⟩ }

/-- A Define Zone in CONFIG on a configured zone (R100). -/
def Zone.redefine (x : Zone) (p : Profile) : Zone :=
  { x with
    profile := p, pendingProfile := none
    vent := { x.vent with base := p.programme, manualValue := p.manualValue } }

/-- The ranges of fields 1-24 (R98). -/
def profileRanges : List (Nat × Nat) :=
  List.replicate 6 (0, 500) ++ List.replicate 6 (0, 200) ++
  [(2, 30), (60, 3600), (0, 100), (0, 100), (0, 100), (0, 100), (0, 100), (0, 100), (0, 40), (30, 900),
   (0, 2), (0, 100)]

/-- Field `i` of a Define Zone payload of the full form, 2 bytes from field 1 on. -/
def zoneField (p : List Byte) (i : Nat) : Nat := u16 p (2 * i - 1)

/-- RANGE of fields 1-24 in the order of the table (R98). -/
def profileRangeChecks (f : Nat → Nat) : List (Bool × Rejection) :=
  (profileRanges.zip (List.range 24)).map fun r => outside r.1.1 r.1.2 (f (r.2 + 1)) (r.2 + 1)

/-- A relation that a profile must satisfy: a failure names the field on its right (R99). -/
def related (ok : Bool) (f : Nat → Nat) (right : Nat) : Bool × Rejection := (!ok, ⟨.range, right, f right⟩)

/-- The relations of one gas, whose six fields start after index `k` (R99). -/
def ladderChecks (f : Nat → Nat) (k : Nat) : List (Bool × Rejection) :=
  [related (f (k + 1) < f (k + 2)) f (k + 2), related (f (k + 2) ≤ f (k + 4)) f (k + 4),
   related (f (k + 4) < f (k + 6)) f (k + 6), related (f (k + 5) < f (k + 4)) f (k + 4),
   related (f (k + 3) ≤ f (k + 4)) f (k + 4)]

/-- The consistency checks of a profile, in order (R99). -/
def consistencyChecks (f : Nat → Nat) : List (Bool × Rejection) :=
  ladderChecks f 0 ++ ladderChecks f 6 ++ [related (f 19 < f 18) f 18, related (f 16 ≤ f 17) f 17]

/-- Define Zone (R98 to R100). -/
def defineZoneRequest (p : List Byte) (e : Ev) : Reply × Ev :=
  let z : ZoneId := toFin 24 (u8 p 0)
  let short := p.length == 1
  let new := if short then Profile.default else Profile.ofFields (zoneField p)
  let e1 := e.mapS fun s =>
    match s.zones.get z with
    | none => s.setZone z (some (Zone.new new))
    | some x =>
      s.setZone z (some (if s.part = .config then x.redefine new else { x with pendingProfile := some new }))
  judged ([badLength p (p.length == 1 || p.length == 49), wrongState e.s (e.s.part == .stopping), above p 0 0 23] ++
      (if short then [] else profileRangeChecks (zoneField p) ++ consistencyChecks (zoneField p)) ++
      [(e.s.running && (e.s.zones.get z).isNone, ⟨.noObject, 0, u8 p 0⟩)]) e
    (.done [], e1)

end Sys2Proof.Machine
end

