-- ==== Sys2Proof/Machine/Ventilation.lean ====
section
/-!
DEFINITION. The Ventilation Unit (spec/06_ventilation_programmes_and_fan_control.md): zone demand,
overlays and purge, fan targets, the ramp, drive reports, and the requests of that chapter; the taking
of a gas reading (R92, R96); Read Zone (R36, R47, R108, R136).
-/

namespace Sys2Proof.Machine

/-! ### Demands (R111, R113 to R115) -/

/-- A gas demand from a short average and the low and high levels (R111). -/
def gasDemand (a low high : Nat) : Nat :=
  if a ≤ 16 * low then 0
  else if 16 * high ≤ a then 100
  else 100 * (a - 16 * low) / (16 * (high - low))

/-- The movement counter after an evaluation that counted `e` events (R113). -/
def movementCounter (m e : Nat) : Nat := min 255 (m - m / 4 + e)

/-- The traffic demand of a movement counter and a traffic gain (R113). -/
def trafficDemand (m gain : Nat) : Nat := min 100 (m * gain / 4)

/-- Stages 2 and 3 of an evaluation: gas demands, movement counter and traffic demand (R111, R113). -/
def Zone.demands (x : Zone) (sensed : Bool) : Zone :=
  let m := movementCounter x.vent.m x.vent.e
  { x with vent := { x.vent with
      dCo := if sensed then gasDemand x.air.aCo x.profile.co.low x.profile.co.high else 0
      dNo2 := if sensed then gasDemand x.air.aNo2 x.profile.no2.low x.profile.no2.high else 0
      m := m, e := 0, dTraffic := trafficDemand m x.profile.trafficGain } }

/-- The zone demand D (R114). -/
def Vent.formDemand (v : Vent) (p : Profile) : Nat :=
  let most := max v.dCo (max v.dNo2 v.dTraffic)
  match v.overlay with
  | .purge _ => 100
  | .blind => p.blindDemand
  | .none =>
    match v.base with
    | .manual => v.manualValue
    | .auto => max most p.autoFloor
    | .night => min p.nightCeiling (max most p.nightFloor)

/-- Stage 5: D, the ventilating flag and Z (R114, R115). -/
def Vent.stage5 (v : Vent) (p : Profile) : Vent :=
  let d := v.formDemand p
  if v.overlay = .none ∧ v.base ≠ .manual then
    let flag := if p.startThreshold ≤ d then true else if d < p.stopThreshold then false else v.ventilating
    { v with demand := d, ventilating := flag, z := if flag then d else 0 }
  else { v with demand := d, ventilating := decide (0 < d), z := d }

/-! ### Targets and wanted speeds (R129, R131) -/

/-- A value above 0 and below the minimum speed raised to it (R129). -/
def Fan.raised (x : Fan) (v : Nat) : Nat := if 0 < v ∧ v < x.minSpeed then x.minSpeed else v

/-- A fan's target: the largest Z among the zones it serves, raised to its minimum speed (R129). -/
def State.fanTarget (s : State) (x : Fan) : Nat :=
  x.raised ((x.served.map fun z => match s.zones.get z with
    | some y => y.vent.z
    | none => 0).foldl max 0)

/-- A fan's wanted speed becomes `w`; a member of the deferred set is withdrawn when `w` is at or below
its command, and its deferred value falls to `w` when `w` is below it (R131). -/
def Ev.wantFan (e : Ev) (f : FanId) (w : Nat) : Ev :=
  match e.s.fans.get f with
  | none => e
  | some x =>
    let e1 := e.updFan f fun y => { y with wanted := w }
    match e1.s.supply.deferredFans.get f with
    | none => e1
    | some v =>
      if w ≤ x.command then e1.deferFan f none
      else if w < v then e1.deferFan f (some w)
      else e1

/-- A fan takes its target, and outside STOPPING its wanted speed with it (R129). -/
def Ev.retarget (e : Ev) (f : FanId) : Ev :=
  match e.s.fans.get f with
  | none => e
  | some x =>
    let t := e.s.fanTarget x
    let e1 := e.updFan f fun y => { y with target := t }
    if e.s.part = .stopping then e1 else e1.wantFan f t

/-- Stages 5 and 6 of an evaluation, and the recomputation of R116. -/
def Ev.demandStep (e : Ev) (z : ZoneId) : Ev :=
  let e1 := e.mapS fun s => s.updZone z fun x => { x with vent := x.vent.stage5 x.profile }
  (e1.s.servingFans z).foldl Ev.retarget e1

/-! ### Purge (R120 to R125) -/

/-- The groups of a zone (R137). -/
def State.zoneGroups (s : State) (z : ZoneId) : List GroupId :=
  (List.finRange 64).filter fun g => match s.groups.get g with
    | some x => x.zone == z
    | none => false

/-- A purge entry or exit of a zone handed to the Lighting Unit and the Supply Limiter: the states and
classes of the zone's groups judged at once, their levels at the end of the event (R120, R125, R142). That the
states are derived here and again at the event's end, and that a service of the deferred set in between sees them
as they stand here, is the model's choice: log entry 48. -/
def Ev.purgeGroups (e : Ev) (z : ZoneId) (fanDemoted : Bool) : Ev :=
  let gs := e.s.zoneGroups z
  gs.foldl Ev.markGroup (e.reclass gs fanDemoted)

/-- The fans serving a zone that are of class `c`. -/
def State.servingClass (s : State) (z : ZoneId) (c : Nat) : List FanId :=
  (s.servingFans z).filter fun f => match s.fans.get f with
    | some x => s.fanClass x == c
    | none => false

/-- The timers of a purge of cause `c` started: the minimum purge timer for GAS, the duration timer with
`duration` seconds for COMMANDED (R120, R123, R124). -/
def Vent.startPurgeTimer (v : Vent) (c : PurgeCause) (minPurge duration now : Nat) : Vent :=
  match c with
  | .gas => { v with minPurgeTimer := some (now + minPurge * 1000), runOut := false, durationTimer := none }
  | .commanded => { v with durationTimer := some (now + duration * 1000) }

/-- A zone's ventilation record on the entry into a purge (R120 steps 1 and 2). -/
def Zone.enterPurge (x : Zone) (c : PurgeCause) (duration now : Nat) : Zone :=
  let pending := x.vent.blindPending || x.vent.overlay == .blind
  { x with vent :=
      { (x.vent.startPurgeTimer c x.profile.minPurge duration now) with
        overlay := .purge c, blindPending := pending } }

/-- A zone's overlay becomes PURGE from NONE or BLIND (R120), but for stages 5 and 6. -/
def Ev.enterPurge (e : Ev) (z : ZoneId) (c : PurgeCause) (duration : Nat) : Ev :=
  let promoted := e.s.servingClass z 3
  let now := e.s.now
  let e1 := e.mapS fun s => s.updZone z fun x => x.enterPurge c duration now
  let e2 := e1.setCauses z fun k => { k with purge := true }
  let e3 := (e2.purgeGroups z false).servePromoted promoted
  e3.raise .zoneAlarm z.val [0, byte c.code]

/-- A COMMANDED purge takes the cause GAS (R124). -/
def Ev.turnToGas (e : Ev) (z : ZoneId) : Ev :=
  let now := e.s.now
  (e.mapS fun s => s.updZone z fun x =>
      { x with vent := { (x.vent.startPurgeTimer .gas x.profile.minPurge 0 now) with overlay := .purge .gas } }).raise
    .zoneAlarm z.val [0, byte PurgeCause.gas.code]

/-- A zone's ventilation record at the end of its purge (R125 steps 1 and 2). -/
def Vent.endPurge (v : Vent) : Vent :=
  { v with
    overlay := if v.blindPending then .blind else .none
    blindPending := false, minPurgeTimer := none, durationTimer := none, runOut := false }

/-- A purge of cause `c` ends (R125), but for stages 5 and 6. -/
def Ev.leavePurge (e : Ev) (z : ZoneId) (c : PurgeCause) : Ev :=
  let before := e.s.servingClass z 1
  let e1 := e.mapS fun s => s.updZone z fun x => { x with vent := x.vent.endPurge }
  let demoted := before.any fun f => (e1.s.servingClass z 3).contains f
  let e2 := e1.setCauses z fun k => { k with purge := false }
  (e2.purgeGroups z demoted).raise .zoneAlarm z.val [1, byte c.code]

/-- A peak trip (R121). -/
def Ev.peakTrip (e : Ev) (z : ZoneId) : Ev :=
  match e.s.zones.get z with
  | none => e
  | some x =>
    match x.vent.overlay with
    | .purge .gas =>
      let now := e.s.now
      e.mapS fun s => s.updZone z fun y => { y with vent := y.vent.startPurgeTimer .gas y.profile.minPurge 0 now }
    | .purge .commanded => (e.turnToGas z).demandStep z
    | _ => (e.enterPurge z .gas 0).demandStep z

/-- A good reply of a GAS station: the reading recorded, and a peak trip when the head is valid and a
value is at or above its peak level (R92, R96). -/
def Ev.gasReport (e : Ev) (i : StationId) (z : ZoneId) (payload : List Byte) : Ev :=
  let e1 := e.mapS fun s => s.updStation i fun x => { x with reading := readingOf payload }
  match e1.s.zones.get z with
  | none => e1
  | some x =>
    let st := e1.s.stations.get i
    if st.headValid && st.reading.trips x.profile then e1.peakTrip z else e1

/-! ### The zone evaluation (R110, R118, R119) -/

/-- Step 1 or step 2 of the overlay step: the alarm, or else the end of a GAS purge (R118). -/
def Ev.overlayAlarm (e : Ev) (z : ZoneId) : Ev :=
  match e.s.zones.get z with
  | none => e
  | some x =>
    if x.air.alarm then
      match x.vent.overlay with
      | .purge .gas => e
      | .purge .commanded => e.turnToGas z
      | _ => e.enterPurge z .gas 0
    else if x.vent.overlay = .purge .gas ∧ x.vent.runOut ∧ x.air.clear then e.leavePurge z .gas
    else e

/-- Step 3 of the overlay step: the blind test of a SENSED zone (R119). -/
def Vent.blindTest (v : Vent) (valid : Nat) : Vent :=
  match v.overlay with
  | .none => if valid = 0 then { v with overlay := .blind } else v
  | .blind => if valid = 0 then v else { v with overlay := .none }
  | .purge _ => { v with blindPending := decide (valid = 0) }

/-- The overlay step of an evaluation (R118). -/
def Ev.overlayStep (e : Ev) (z : ZoneId) : Ev :=
  let valid := e.s.validity z
  let e1 := e.overlayAlarm z
  if e.s.sensed z then e1.mapS fun s => s.updZone z fun x => { x with vent := x.vent.blindTest valid } else e1

/-- A zone evaluation, at the expiry of the zone's evaluation timer (R102, R110). -/
def Ev.evaluateZone (e : Ev) (z : ZoneId) : Ev :=
  match (e.s.zones.get z).bind fun x => x.vent.evalTimer with
  | none => e
  | some d =>
    let e1 := (e.reach d).airStep z
    let s := e1.s
    let e2 := e1.mapS fun t => t.updZone z fun x =>
      let y := x.demands (s.sensed z)
      { y with vent := { y.vent with evalTimer := some (s.after (y.profile.period * 1000)) } }
    (e2.overlayStep z).demandStep z

/-- The minimum purge timer expires: its run-out mark is set (R122). -/
def Ev.minPurgeExpiry (e : Ev) (z : ZoneId) : Ev :=
  match (e.s.zones.get z).bind fun x => x.vent.minPurgeTimer with
  | none => e
  | some d => (e.reach d).mapS fun s => s.updZone z fun x =>
      { x with vent := { x.vent with minPurgeTimer := none, runOut := true } }

/-- The purge duration timer expires: the COMMANDED purge ends (R124). -/
def Ev.durationExpiry (e : Ev) (z : ZoneId) : Ev :=
  match (e.s.zones.get z).bind fun x => x.vent.durationTimer with
  | none => e
  | some d => ((e.reach d).leavePurge z .commanded).demandStep z

/-! ### The ramp (R130) -/

/-- The next value of a fan's ramp (R130). -/
def Fan.nextStep (x : Fan) : Nat :=
  if x.command < x.wanted then
    if x.command = 0 then x.minSpeed else min (x.command + x.rampStep) x.wanted
  else if 0 < x.wanted then max (x.command - x.rampStep) x.wanted
  else if x.minSpeed < x.command then max (x.command - x.rampStep) x.minSpeed
  else 0

/-- The conditions under which a fan may take a step (R130). -/
def Fan.mayStep (x : Fan) (deferred : Bool) : Bool :=
  (x.state == .stopped || x.state == .running) && x.command != x.wanted && !(x.command < x.wanted && deferred)

/-- One step of a fan's ramp, which then is TIMING: a step up is a request, a step down a reported fall
(R130, R131, R156). -/
def Ev.rampStep (e : Ev) (f : FanId) (x : Fan) : Ev :=
  let t := e.s.after Config.rampMs
  let e1 := e.updFan f fun y => { y with ramp := some t }
  if x.command < x.wanted then e1.askFan f x.nextStep else (e1.setFanCommand f x.nextStep).serve

/-- A step taken when the conditions hold and the ramp is IDLE (R130). -/
def Ev.tryRamp (e : Ev) (f : FanId) : Ev :=
  match e.s.fans.get f with
  | none => e
  | some x =>
    if x.ramp.isNone && x.mayStep (e.s.supply.deferredFans.get f).isSome then e.rampStep f x else e

/-- The 2 s of a ramp end: a further step, or IDLE (R130). -/
def Ev.rampExpiry (e : Ev) (f : FanId) : Ev :=
  match e.s.fans.get f with
  | none => e
  | some x =>
    match x.ramp with
    | none => e
    | some d =>
      let e1 := e.reach d
      if x.mayStep (e1.s.supply.deferredFans.get f).isSome then e1.rampStep f x
      else e1.mapS fun s => s.updFan f fun y => { y with ramp := none }

/-- The marked fans judged, the lowest number first, until no mark is left; `fuel` bounds the work
(R130; log entry 22). -/
def Ev.rampMarked : Nat → Ev → Ev
  | 0, e => e
  | n + 1, e =>
    match (List.finRange 32).find? fun f => e.fans.contains f with
    | none => e
    | some f => Ev.rampMarked n (({ e with fans := e.fans.filter (· != f) } : Ev).tryRamp f)

/-! ### Fan states (R132 to R134) -/

/-- What R133 lists for an entry to FAULT and for a change of its fault reason. -/
def Ev.takeFault (e : Ev) (f : FanId) (r : FaultReason) : Ev :=
  let e1 := (e.updFan f fun y =>
    { y with state := .fault, reason := r, command := 0, startTimer := none, stopTimer := none, ramp := none })
  (((e1.placeFan f).deferFan f none).raise .fanFault f.val [byte r.code]).judgeServed f

/-- A fan enters FAULT (R133), by which the headroom grows and the deferred set is served (R161). -/
def Ev.faultFan (e : Ev) (f : FanId) (r : FaultReason) : Ev := (e.takeFault f r).serve

/-- A fan's state changed to `st` with the timers of that state, and judged for UNVENTILATED (R126). -/
def Ev.enterFan (e : Ev) (f : FanId) (st : FanState) : Ev :=
  let now := e.s.now
  (e.updFan f fun y => y.enter st now).judgeServed f

/-- A drive's report for a fan in STOPPED, STARTING, RUNNING, STOPPING or FAULT (R132, R133). A fan already in
FAULT changes its reason alone, which frees no headroom (R161). -/
def Ev.driveReport (e : Ev) (f : FanId) (x : Fan) (r : DriveReport) : Ev :=
  match x.state, r with
  | .fault, .tripped => if x.reason = .trip then e else e.takeFault f .trip
  | .fault, _ => e
  | _, .tripped => e.faultFan f .trip
  | .stopped, .running => (e.enterFan f .stopping).placeFan f
  | .starting, .running => e.enterFan f .running
  | .running, .stopped => e.faultFan f .uncommandedStop
  | .stopping, .stopped => e.enterFan f .stopped
  | _, _ => e

/-- The state that a LOST fan takes at its station's return (R134). -/
def returnedState (r : DriveReport) (command : Nat) : FanState :=
  match r with
  | .tripped => .fault
  | .stopped => if command = 0 then .stopped else .starting
  | .running => if command = 0 then .stopping else .running

/-- A drive's report for a LOST fan (R134; log entry 15). -/
def Ev.returnFan (e : Ev) (f : FanId) (x : Fan) (r : DriveReport) : Ev :=
  match r with
  | .tripped => e.faultFan f .trip
  | _ => (e.enterFan f (returnedState r x.command)).placeFan f

/-- A drive's report recorded and taken (R132, R134). -/
def Ev.fanReport (e : Ev) (f : FanId) (r : DriveReport) : Ev :=
  match e.s.fans.get f with
  | none => e
  | some x =>
    let e1 := e.mapS fun s => s.updFan f fun y => { y with lastReport := some r }
    if x.state = .lost then e1.returnFan f x r else e1.driveReport f x r

/-- A good poll reply of a FAN station, channel by channel (R132), from channel 0 to channel 3: the model's
choice, log entry 39. -/
def Ev.fanReports (e : Ev) (channels : Vector (Option FanId) 4) (payload : List Byte) : Ev :=
  (List.finRange 4).foldl (fun e c => match channels.get c with
    | some f => e.fanReport f (DriveReport.ofCode (u8 payload c.val))
    | none => e) e

/-- A fan not in FAULT enters LOST: its timers stop, its ramp is IDLE, its command is kept and it is
withdrawn from the deferred set (R134, R160). -/
def Ev.loseFan (e : Ev) (f : FanId) : Ev :=
  match e.s.fans.get f with
  | none => e
  | some x =>
    if x.state = .fault then e
    else
      ((e.updFan f fun y =>
        { y with state := .lost, startTimer := none, stopTimer := none, ramp := none }).deferFan f none).judgeServed f

/-- A FAN station becomes LOST (R134). -/
def Ev.fansLost (e : Ev) (channels : Vector (Option FanId) 4) : Ev :=
  channels.toList.foldl (fun e c => match c with
    | some f => e.loseFan f
    | none => e) e

/-- The start timer expires: FAULT with START_TIMEOUT (R132). -/
def Ev.startTimerExpiry (e : Ev) (f : FanId) : Ev :=
  match (e.s.fans.get f).bind Fan.startTimer with
  | none => e
  | some d => (e.reach d).faultFan f .startTimeout

/-- The stop timer expires: FAULT with STOP_TIMEOUT (R132). -/
def Ev.stopTimerExpiry (e : Ev) (f : FanId) : Ev :=
  match (e.s.fans.get f).bind Fan.stopTimer with
  | none => e
  | some d => (e.reach d).faultFan f .stopTimeout

/-! ### Requests (R117, R123, R124, R128, R133, R136) -/

/-- Set Programme (R117). -/
def setProgrammeRequest (p : List Byte) (e : Ev) : Reply × Ev :=
  let z : ZoneId := toFin 24 (u8 p 0)
  let e1 := e.mapS fun s => s.updZone z fun x =>
    { x with vent := { x.vent with base := Programme.ofCode (u8 p 1), manualValue := u8 p 2 } }
  let none' : Bool := match e.s.zones.get z with
    | some x => x.vent.overlay == .none
    | none => false
  judged [badLength p (p.length == 3), wrongState e.s (e.s.part == .stopping), above p 0 0 23, above p 1 1 2,
      above p 2 2 100, zoneMissing e.s p 0 0] e
    (.done [], if e.s.part != .config && none' then e1.demandStep z else e1)

/-- The zone's overlay. -/
def State.overlay (s : State) (z : ZoneId) : Overlay :=
  match s.zones.get z with
  | some x => x.vent.overlay
  | none => .none

/-- Begin Purge (R123). -/
def beginPurgeRequest (p : List Byte) (e : Ev) : Reply × Ev :=
  let z : ZoneId := toFin 24 (u8 p 0)
  let now := e.s.now
  let e1 := match e.s.overlay z with
    | .purge _ => e.mapS fun s => s.updZone z fun x => { x with vent := x.vent.startPurgeTimer .commanded 0 (u16 p 1) now }
    | _ => (e.enterPurge z .commanded (u16 p 1)).demandStep z
  judged [badLength p (p.length == 3), wrongState e.s (!e.s.running), above p 0 0 23, outside 60 3600 (u16 p 1) 1,
      zoneMissing e.s p 0 0, (e.s.overlay z == .purge .gas, ⟨.busy, 0, u8 p 0⟩)] e
    (.done [], e1)

/-- End Purge (R124). -/
def endPurgeRequest (p : List Byte) (e : Ev) : Reply × Ev :=
  let z : ZoneId := toFin 24 (u8 p 0)
  judged [badLength p (p.length == 1), wrongState e.s (!e.s.running), above p 0 0 23, zoneMissing e.s p 0 0,
      (e.s.overlay z == .purge .gas, ⟨.conflict, 0, u8 p 0⟩)] e
    (.done [], if e.s.overlay z = .purge .commanded then (e.leavePurge z .commanded).demandStep z else e)

/-- A fan with the dynamic values of entry to CONFIG (R127). -/
def Fan.new (served : List ZoneId) (pRated minSpeed rampStep safeSpeed : Nat) : Fan :=
  { served := served, pRated := pRated, minSpeed := minSpeed, rampStep := rampStep, safeSpeed := safeSpeed
    state := .stopped, reason := .none, target := 0, wanted := 0, command := 0, lastReport := none
    startTimer := none, stopTimer := none, ramp := none }

/-- A fan's values on entry to CONFIG (R127). -/
def Fan.toConfig (x : Fan) : Fan := Fan.new x.served x.pRated x.minSpeed x.rampStep x.safeSpeed

/-- Define Fan (R128): the removal, short and full forms of section 10.7. -/
def defineFanRequest (p : List Byte) (e : Ev) : Reply × Ev :=
  let f : FanId := toFin 32 (u8 p 0)
  let removal := p.length == 1
  let n := u8 p 1
  let full := p.length == n + 7
  let served : List ZoneId := (List.range n).map fun j => toFin 24 (u8 p (2 + j))
  let new := if full
    then Fan.new served (u16 p (n + 2)) (u8 p (n + 4)) (u8 p (n + 5)) (u8 p (n + 6))
    else Fan.new served (u16 p (n + 2)) 30 5 50
  let bodyChecks : List (Bool × Rejection) :=
    [(n == 0 || 24 < n, ⟨.range, 1, n⟩)] ++ listChecks p 2 n (fun i => 23 < u8 p i) .range ++
    [outside 1 2000 (u16 p (n + 2)) (n + 2)] ++
    (if full then [outside 20 60 (u8 p (n + 4)) (n + 3), outside 1 20 (u8 p (n + 5)) (n + 4),
      outside 0 100 (u8 p (n + 6)) (n + 5)] else []) ++
    listChecks p 2 n (fun i => (e.s.zones.get (toFin 24 (u8 p i))).isNone) .noObject ++
    listChecks p 2 n (repeated p 2) .conflict
  judged ([badLength p (removal || (4 ≤ p.length && (p.length == n + 4 || full))),
      wrongState e.s (e.s.part != .config), above p 0 0 31] ++ (if removal then [] else bodyChecks)) e
    (.done [], e.mapS fun s => s.setFan f (if removal then none else some new))

/-- NO_OBJECT for a fan that is not defined. -/
def fanMissing (s : State) (p : List Byte) : Bool × Rejection :=
  ((s.fans.get (toFin 32 (u8 p 0))).isNone, ⟨.noObject, 0, u8 p 0⟩)

/-- The fan's station is LOST. -/
def State.fanStationLost (s : State) (f : FanId) : Bool :=
  match s.fanStation f with
  | some (i, _) => (s.stations.get i).state == .lost
  | none => false

/-- The drive's last report is TRIPPED. -/
def State.fanTripped (s : State) (f : FanId) : Bool :=
  match s.fans.get f with
  | some x => x.lastReport == some .tripped
  | none => false

/-- Clear Fan Fault (R133). -/
def clearFanFaultRequest (p : List Byte) (e : Ev) : Reply × Ev :=
  let f : FanId := toFin 32 (u8 p 0)
  let faulted : Bool := match e.s.fans.get f with
    | some x => x.state == .fault
    | none => false
  let e1 := (e.updFan f fun y => { y with state := .stopped, reason := .none }).judgeServed f
  judged [badLength p (p.length == 1), above p 0 0 31, fanMissing e.s p,
      (e.s.fanTripped f || e.s.fanStationLost f, ⟨.conflict, 0, u8 p 0⟩)] e
    (.done [], if faulted then e1 else e)

/-- The byte of a drive's last report, 255 for none. -/
def reportByte : Option DriveReport → Byte
  | some r => byte r.code
  | none => 255

/-- The report of Read Fan (R136, section 10.7). The state of a station that does not exist and the
deferred value of a fan not in the set are free bytes (log entry 6). The served zones stand in the order of the
fan's definition: the model's choice, log entry 40. -/
def fanReportBytes (s : State) (f : FanId) (x : Fan) : List Byte :=
  let station : List Byte := match s.fanStation f with
    | some (i, c) => [byte (stationNumber i), byte c.val, byte (s.stations.get i).state.code]
    | none => [0, 255, s.freeByte 0]
  let seconds := match x.startTimer.orElse fun _ => x.stopTimer with
    | some d => s.secondsTo d
    | none => 0
  let deferred : List Byte := match s.supply.deferredFans.get f with
    | some v => [1, byte v]
    | none => [0, s.freeByte 1]
  [byte f.val, byte x.served.length] ++ x.served.map (fun z : ZoneId => byte z.val) ++ bytes2 x.pRated ++
    [byte x.minSpeed, byte x.rampStep, byte x.safeSpeed] ++ station ++
    [byte x.state.code, byte x.reason.code, byte x.target, byte x.wanted, byte x.command, reportByte x.lastReport] ++
    bytes2 seconds ++ deferred ++ bytes2 x.load

/-- Read Fan (R136). -/
def readFanRequest (p : List Byte) (e : Ev) : Reply × Ev :=
  let f : FanId := toFin 32 (u8 p 0)
  judged [badLength p (p.length == 1), above p 0 0 31, fanMissing e.s p] e
    (.done (match e.s.fans.get f with
      | some x => fanReportBytes e.s f x
      | none => []), e.drawn)

/-- The bytes of a count block, total to free[7] (section 10.7). -/
def CountBlock.bytes (c : CountBlock) : List Byte :=
  bytes2 c.total ++ bytes2 c.opened ++ bytes2 c.occupied ++ bytes2 c.unknown ++ c.free.toList.flatMap bytes2

/-- The overlay's cause byte; an overlay that is not PURGE has none, and its byte is free (log entry 6). -/
def causeByte (s : State) : Overlay → Byte
  | .purge c => byte c.code
  | _ => s.freeByte 0

/-- One head's entry in the Read Zone report (R108). -/
def headBytes (s : State) (i : StationId) : List Byte :=
  let x := s.stations.get i
  [byte (stationNumber i), byte x.state.code, byte x.reading.status.code,
   byte (bitIf x.reading.present 1 + bitIf x.reading.saturated 2 + bitIf x.headValid 4)] ++
    bytes2 x.reading.co ++ bytes2 x.reading.no2

/-- The state report of Read Zone, part 0 (R36, R47, R108, R136, section 10.7). The serving fans stand in
fan-number order: the model's choice, log entry 40. -/
def zoneReportBytes (s : State) (z : ZoneId) (x : Zone) : List Byte :=
  let v := x.vent
  let instants := if s.validity z = 0 then [65535, 65535] else [s.coInstant z, s.no2Instant z]
  let seconds := match v.minPurgeTimer.orElse fun _ => v.durationTimer with
    | some d => s.secondsTo d
    | none => 0
  let heads := s.heads z
  let fans := s.servingFans z
  [byte z.val, byte x.guidance.code, x.causes.toByte, flagByte s.recounting] ++ (s.live.get z).bytes ++
    (List.finRange 8).map (fun b => byte (s.holdCount z b)) ++
    [byte (bitIf (s.sensed z) 1 + bitIf x.air.seeded 2 + bitIf x.air.advisory 4 + bitIf x.air.alarm 8 +
        bitIf x.air.clear 16 + bitIf x.air.evaluated 32), byte (s.validity z)] ++
    instants.flatMap bytes2 ++ bytes2 x.air.aCo ++ bytes2 x.air.lCo ++ bytes2 x.air.aNo2 ++ bytes2 x.air.lNo2 ++
    [byte v.base.code, byte v.manualValue, byte v.overlay.code, causeByte s v.overlay,
      byte (bitIf v.blindPending 1 + bitIf v.runOut 2)] ++ bytes2 seconds ++
    [byte v.e, byte v.m, byte v.dCo, byte v.dNo2, byte v.dTraffic, byte v.demand, flagByte v.ventilating, byte v.z] ++
    [byte heads.length] ++ heads.flatMap (headBytes s) ++ [byte fans.length] ++
    fans.flatMap fun f => [byte f.val, match s.fans.get f with
      | some y => byte y.state.code
      | none => 0]

/-- Read Zone (R108, section 10.7): part 0 the state, 1 the profile in effect, 2 the pending profile. -/
def readZoneRequest (p : List Byte) (e : Ev) : Reply × Ev :=
  let z : ZoneId := toFin 24 (u8 p 0)
  judged [badLength p (p.length == 2), above p 0 0 23, above p 1 1 2, zoneMissing e.s p 0 0] e
    (.done (match e.s.zones.get z with
      | none => []
      | some x =>
        match u8 p 1 with
        | 0 => zoneReportBytes e.s z x
        | 1 => x.profile.bytes
        | _ => match x.pendingProfile with
          | some q => q.bytes
          | none => [byte z.val]), e.drawn)

end Sys2Proof.Machine
end

