-- ==== Sys2Proof/Machine/FieldLoop.lean ====
section
/-!
DEFINITION. The Field Loop Controller (spec/09_field_loop.md): the station table, exchanges and their
outcomes, the schedule, the loop test, and the requests of that chapter.
-/

namespace Sys2Proof.Machine

/-! ### Loss and return of a station (R170 to R173) -/

/-- A loss handed to the owner of a station's bindings (R171): R32, R58, R89, R134, R150; a GAS head
stops being valid by R93 through its station's state. -/
def Ev.ownerLost (e : Ev) (b : Binding) : Ev :=
  match b with
  | .none => e
  | .gas _ => e
  | .bay inputs => e.bayLost inputs
  | .lane l => e.laneLost l
  | .fan channels => e.fansLost channels
  | .light _ _ => e.lightLost b
  | .sign p => e.updPanel p Panel.lost

/-- A station becomes LOST with a cause: MISSES 1, STALE 2, DISABLED 3 (R171). -/
def Ev.loseStation (e : Ev) (i : StationId) (cause : Nat) : Ev :=
  let t := e.s.after Config.probeMs
  let e1 := e.mapS fun s => s.updStation i fun x =>
    { x with state := .lost, misses := 3, firstHad := true, staleTimer := none, probeTimer := some t }
  let e2 := e1.raise .stationState (stationNumber i) [byte StationState.lost.code, byte cause]
  (e2.ownerLost (e.s.stations.get i).binding).markRun.markStop

/-- A return handed to the owner of a station's bindings (R172): R89, R150. A FAN station's fans return
with their reports (R134). -/
def Ev.ownerReturned (e : Ev) (b : Binding) : Ev :=
  match b with
  | .light _ _ => e.lightReturn b
  | .sign p => e.updPanel p Panel.returned
  | _ => e

/-- A good reply's effects on its station, before its content is handed on (R170, R172). -/
def Ev.stationAnswered (e : Ev) (i : StationId) : Ev :=
  let old := e.s.stations.get i
  let t := e.s.after Config.stalenessMs
  let e1 := (e.mapS fun s => s.updStation i fun x =>
    { x with
      state := .active, misses := 0, firstHad := true, staleTimer := some t
      probeTimer := if x.state = .lost then none else x.probeTimer
      probeDue := if x.state = .lost then false else x.probeDue }).markRun
  if old.state = .lost then
    (e1.raise .stationState (stationNumber i) [byte StationState.active.code, 0]).ownerReturned old.binding
  else e1

/-- A miss of a station in an exchange of kind `k` (R170; log entry 33). -/
def Ev.stationMissed (e : Ev) (i : StationId) (k : ExchangeKind) : Ev :=
  let x := e.s.stations.get i
  if x.state = .lost then
    if k = .probe then
      let t := e.s.after Config.probeMs
      e.mapS fun s => s.updStation i fun y => { y with probeTimer := some t }
    else e
  else if x.misses < 2 then
    e.mapS fun s => s.updStation i fun y => { y with misses := y.misses + 1, state := .suspect }
  else e.loseStation i 1

/-- The report that a good poll or probe reply carries, handed to its owner (R173). -/
def Ev.takeReport (e : Ev) (i : StationId) (payload : List Byte) : Ev :=
  let b := (e.s.stations.get i).binding
  match b with
  | .none => e
  | .gas z => e.gasReport i z payload
  | .bay inputs => e.bayReport inputs payload
  | .lane l => e.laneReport i l payload
  | .fan channels => e.fanReports channels payload
  | .light _ _ => e.lightReport b payload
  | .sign p =>
    let now := e.s.now
    e.updPanel p fun x => x.report payload now

/-! ### Output records and the schedule (R174, R175) -/

/-- The command of a channel's fan, 0 for an unbound channel (R175). -/
def State.channelCommand (s : State) (c : Option FanId) : Byte :=
  match c.bind fun f => s.fans.get f with
  | some x => byte x.command
  | none => 0

/-- The level of a channel's group, 0 for an unbound channel (R175). -/
def State.channelLevel (s : State) (c : Option GroupId) : Byte :=
  match c.bind fun g => s.groups.get g with
  | some x => byte x.commanded
  | none => 0

/-- The content of a station's output record as a command carries it (R175, section 10.7). -/
def State.recordContent (s : State) (b : Binding) : List Byte :=
  match b with
  | .fan channels => channels.toList.map s.channelCommand
  | .light channels _ => channels.toList.map s.channelLevel
  | .sign p =>
    match (s.panels.get p).update with
    | some (c, t) => t :: c.bytes
    | none => []
  | _ => []

/-- A station of the segment, enabled and with a kind. -/
def Station.onSegment (x : Station) (g : Seg) : Bool := x.enabled && x.segment == g && x.binding != .none

/-- The station's kind is LANE. -/
def Binding.isLane : Binding → Bool
  | .lane _ => true
  | _ => false

/-- The station is eligible for a command (R175). -/
def State.eligible (s : State) (x : Station) : Bool :=
  x.state != .lost && match x.binding with
    | .fan _ => x.dirty
    | .light _ _ => x.dirty
    | .sign p => (s.panels.get p).readyToSend
    | _ => false

/-- The stations of a segment with a property, in station-number order. -/
def State.segmentStations (s : State) (g : Seg) (p : Station → Bool) : List StationId :=
  (List.finRange 96).filter fun i => (s.stations.get i).onSegment g && p (s.stations.get i)

/-- The ordinary poll list (R174). -/
def State.pollList (s : State) (g : Seg) : List StationId :=
  s.segmentStations g fun x => !x.binding.isLane && x.state != .lost

/-- The lane list (R174). -/
def State.laneList (s : State) (g : Seg) : List StationId :=
  s.segmentStations g fun x => x.binding.isLane && x.state != .lost

/-- The first station of a list in station-number order after number `after`, wrapping around. -/
def nextAfter (l : List StationId) (after : Nat) : Option StationId :=
  (l.find? fun i => after < stationNumber i).orElse fun _ => l.head?

/-- The payload of a poll or probe: a LANE station's last event number (R173, section 10.7). -/
def Station.pollPayload (x : Station) : List Byte :=
  if x.binding.isLane then
    match x.lastEvent with
    | some n => [1, n]
    | none => [0, 0]
  else []

/-- An exchange of kind `k` with station `i` begins: its request frame is being sent. -/
def Segment.engage (x : Segment) (k : ExchangeKind) (i : StationId) (sent : List Byte) : Segment :=
  { x with exchange := some ⟨k, i, sent, none⟩ }

/-- Case 1 of R174: a command to station `i`. A SIGN update becomes its panel's in-flight update (R83). -/
def State.sendCommand (s : State) (g : Seg) (i : StationId) : State :=
  let b := (s.stations.get i).binding
  let s1 := s.updSegment g fun x =>
    { x.engage .command i (s.recordContent b) with lastCommanded := stationNumber i }
  match b with
  | .sign p => s1.updPanel p fun x => { x with inFlight := x.update }
  | _ => s1

/-- Case 2 of R174: a probe of station `i`. -/
def State.sendProbe (s : State) (g : Seg) (i : StationId) : State :=
  (s.updStation i fun x => { x with probeDue := false }).updSegment g fun x =>
    x.engage .probe i (s.stations.get i).pollPayload

/-- Case 3 of R174: the next poll of a lane round; the round ends with its last station (log entry 20). -/
def State.sendLanePoll (s : State) (g : Seg) (i : StationId) : State :=
  let last := (s.laneList g).getLast? == some i
  s.updSegment g fun x =>
    { x.engage .poll i (s.stations.get i).pollPayload with
      round := if last then none else some (stationNumber i)
      pollCount := if last then 0 else x.pollCount }

/-- Case 4 of R174: an ordinary poll. -/
def State.sendPoll (s : State) (g : Seg) (i : StationId) : State :=
  s.updSegment g fun x =>
    { x.engage .poll i (s.stations.get i).pollPayload with
      pollPos := stationNumber i, pollCount := x.pollCount + 1 }

/-- The progress of a lane round settled before a choice: a round whose remaining stations have left the
list has ended, and without lane stations a full count returns to 0 (R174; log entry 20). -/
def State.settleRound (s : State) (g : Seg) : State :=
  let lanes := s.laneList g
  s.updSegment g fun x =>
    if lanes.isEmpty then
      { x with round := none, pollCount := if x.round.isSome || 4 ≤ x.pollCount then 0 else x.pollCount }
    else match x.round with
      | some r => if lanes.any fun i => r < stationNumber i then x else { x with round := none, pollCount := 0 }
      | none => x

/-- The next lane station to be polled, when case 3 of R174 applies. A station that joins the lane list with a
number below the round's progress waits for the next round: the model's reading, log entry 20. -/
def State.laneTurn (s : State) (g : Seg) : Option StationId :=
  let x := s.segments.get g
  let lanes := s.laneList g
  match x.round with
  | some r => lanes.find? fun i => r < stationNumber i
  | none => if 4 ≤ x.pollCount || (s.pollList g).isEmpty then lanes.head? else none

/-- The next exchange of a segment chosen; `polled` says that the exchange that ended was a poll or a
probe (R174). Nothing is chosen outside mode RUN or while an exchange is in flight. -/
def State.choose (s : State) (g : Seg) (polled : Bool) : State :=
  if (s.segments.get g).mode ≠ .run ∨ (s.segments.get g).exchange.isSome then s
  else
    let command := if polled
      then nextAfter (s.segmentStations g s.eligible) (s.segments.get g).lastCommanded else none
    match command with
    | some i => s.sendCommand g i
    | none =>
      match (s.segmentStations g Station.probeDue).head? with
      | some i => s.sendProbe g i
      | none =>
        let s1 := s.settleRound g
        match s1.laneTurn g with
        | some i => s1.sendLanePoll g i
        | none =>
          match nextAfter (s1.pollList g) (s1.segments.get g).pollPos with
          | some i => s1.sendPoll g i
          | none => s1

/-- The segments of the event choose their next exchanges (R174). -/
def Ev.runSchedule (e : Ev) : Ev :=
  { e with s := e.sched.foldl (fun s x => s.choose x.1 x.2) e.s, sched := [] }

/-! ### The loop test (R176 to R178) -/

/-- One step of the shift register: its new contents, whose stage 1 (bit 0) is the output (R177). -/
def prbsStep (r : BitVec 7) : BitVec 7 :=
  (r <<< 1) ||| (if r.getLsbD 6 != r.getLsbD 5 then 1 else 0)

/-- `n` output bits appended to `acc`, the first as the most significant (R177). -/
def prbsBits : Nat → BitVec 7 → Byte → BitVec 7 × Byte
  | 0, r, acc => (r, acc)
  | n + 1, r, acc =>
    let r' := prbsStep r
    prbsBits n r' ((acc <<< 1) ||| (if r'.getLsbD 0 then 1 else 0))

/-- The next `n` pattern bytes (R177). -/
def prbsBytes : Nat → BitVec 7 → BitVec 7 × List Byte
  | 0, r => (r, [])
  | n + 1, r =>
    let (r1, b) := prbsBits 8 r 0
    let (r2, bs) := prbsBytes n r1
    (r2, b :: bs)

/-- The 16 bytes of the next test frame (R177). -/
def Segment.testBytes (x : Segment) (t : TestRecord) : BitVec 7 × List Byte :=
  match t.pattern with
  | .fixed bytes => (x.prbs, bytes)
  | .prbs => prbsBytes 16 x.prbs

/-- The next test frame is sent (R177; log entry 21). -/
def Segment.sendTest (x : Segment) (t : TestRecord) : Segment :=
  let (r, bytes) := x.testBytes t
  { x.engage .test t.station bytes with prbs := r, test := some { t with sent := t.sent + 1 } }

/-- The data of TEST_DONE: the outcome and the four counts (section 10.7). -/
def TestRecord.notice (t : TestRecord) : List Byte :=
  [byte t.outcome.code] ++ bytes2 t.sent ++ bytes2 t.returned ++ [byte t.byteErrors, byte t.timeouts]

/-- A test ends with an outcome: IDLE, and TEST_DONE is raised (R177, R178). -/
def Ev.endTest (e : Ev) (g : Seg) (t : TestRecord) (outcome : TestOutcome) : Ev :=
  let t1 := { t with outcome := outcome }
  (e.mapS fun s => s.updSegment g fun x =>
    { x with test := some t1, testRunning := false, exchange := none }).raise .testDone g.val t1.notice

/-- The exchange of a test frame has ended with the record `t`: the next frame, or DONE (R177). -/
def Ev.testFrameEnded (e : Ev) (g : Seg) (t : TestRecord) : Ev :=
  if t.sent < t.frameCount then e.mapS fun s => s.updSegment g fun x => x.sendTest t
  else e.endTest g t .done

/-- The positions at which an echo differs from the 16 bytes sent or carries no byte (R177). -/
def echoErrors (sent payload : List Byte) : Nat :=
  ((List.range sent.length).filter fun k => payload[k]? != sent[k]?).length

/-- A test frame is echoed (R177). -/
def TestRecord.echoed (t : TestRecord) (sent payload : List Byte) : TestRecord :=
  { t with returned := t.returned + 1, byteErrors := min 255 (t.byteErrors + echoErrors sent payload) }

/-- A missing echo (R177). -/
def TestRecord.missing (t : TestRecord) : TestRecord := { t with timeouts := min 255 (t.timeouts + 1) }

/-- A running test is aborted; nothing when none runs (R178). -/
def Ev.abortTest (e : Ev) (g : Seg) : Ev :=
  let x := e.s.segments.get g
  match x.test with
  | some t => if x.testRunning then e.endTest g t .aborted else e
  | none => e

/-! ### The end of an exchange (R169, R170, R175) -/

/-- The segment's exchange whose reply window runs, with the end of the window. -/
def State.openExchange (s : State) (g : Seg) : Option (Exchange × Nat) :=
  match (s.segments.get g).exchange with
  | some x => x.window.map fun d => (x, d)
  | none => none

/-- The exchange is over: the segment is free and chooses anew at the end of the event (R174). -/
def Ev.closeExchange (e : Ev) (g : Seg) (k : ExchangeKind) : Ev :=
  let e1 := e.mapS fun s => s.updSegment g fun x => { x with exchange := none }
  { e1 with sched := e1.sched ++ [(g, k == .poll || k == .probe)] }

/-- An exchange ends without a good reply: a missing echo of a test, or a miss of the station, by which a
SIGN update is abandoned (R84, R170, R177). -/
def Ev.exchangeMissed (e : Ev) (g : Seg) (x : Exchange) : Ev :=
  match x.kind, (e.s.segments.get g).test with
  | .test, some t => e.testFrameEnded g t.missing
  | .test, none => e
  | k, _ =>
    let e1 := (e.closeExchange g k).stationMissed x.station k
    match k, (e.s.stations.get x.station).binding with
    | .command, .sign p => e1.updPanel p Panel.abandon
    | _, _ => e1

/-- A line error counted and captured (R169), and the exchange ended (R170, R177). -/
def Ev.lineError (e : Ev) (g : Seg) (x : Exchange) (k : LineErrorKind) (received : List Byte) : Ev :=
  (e.mapS fun s => s.updSegment g fun y =>
    { y with
      errors := min 255 (y.errors + 1)
      capture := y.capture.orElse fun _ => some ⟨x.station, k, received.take 4⟩ }).exchangeMissed g x

/-- The length section 10.7 gives for a poll reply of a kind. -/
def Binding.replyLengthOk (b : Binding) (n : Nat) : Bool :=
  match b with
  | .none => false
  | .gas _ => n == 5
  | .bay _ => n == 16
  | .lane _ => n == 0 || n == 3
  | .fan _ => n == 4
  | .light _ _ => n == 2
  | .sign _ => n == 2

/-- The values of a poll reply of a kind lie within the codes of section 10.7; GAS is not judged (R169;
log entry 29 for the VL byte of a LANE reply). -/
def Binding.replyValuesOk (b : Binding) (p : List Byte) : Bool :=
  match b with
  | .bay _ => p.all fun v => v.toNat ≤ 3
  | .lane _ => p.isEmpty || (1 ≤ u8 p 0 && u8 p 0 ≤ 3 && (u8 p 2 ≤ 3 || u8 p 2 == 255))
  | .fan _ => p.all fun v => v.toNat ≤ 2
  | .sign _ => u8 p 0 ≤ 1
  | _ => true

/-- The failure of a complete frame that R169 counts as a line error: a wrong length or a wrong value. -/
def Exchange.fault (x : Exchange) (b : Binding) (payload : List Byte) : Option LineErrorKind :=
  match x.kind with
  | .test => none
  | .command => if payload.isEmpty then none else some .length
  | _ =>
    if !b.replyLengthOk payload.length then some .length
    else if !b.replyValuesOk payload then some .check
    else none

/-- The leading bytes of a reply as far as its failure: address, code and length, and for a wrong value
the first payload byte (R169; log entry 30). -/
def replyHead (x : Exchange) (lineAddress : Nat) (k : LineErrorKind) (payload : List Byte) : List Byte :=
  let head := [byte lineAddress, byte x.kind.code, byte payload.length]
  if k = .length then head else head ++ payload.take 1

/-- A good reply to a command: the record is clean when its content still equals what was sent; a SIGN
panel is BUSY (R84, R175). That a record whose owner wrote another value and then the sent one again while the command
was in flight is clean, since the contents are compared, is the model's choice: log entry 50. That this cleans also the
record of a LIGHT station that the same reply has returned from LOST is the model's choice: log entry 46. -/
def Ev.acknowledged (e : Ev) (i : StationId) (sent : List Byte) : Ev :=
  let b := (e.s.stations.get i).binding
  match b with
  | .sign p => e.updPanel p Panel.acknowledged
  | _ =>
    let same := e.s.recordContent b == sent
    (e.mapS fun s => s.updStation i fun x => { x with dirty := x.dirty && !same }).markStop

/-- FIELD_GOOD_REPLY (R169, R170, R173, R175, R177). -/
def Ev.goodReply (e : Ev) (g : Seg) (payload : List Byte) : Ev :=
  match e.s.openExchange g with
  | none => e
  | some (x, _) =>
    let st := e.s.stations.get x.station
    match x.fault st.binding payload with
    | some k => e.lineError g x k (replyHead x st.lineAddress k payload)
    | none =>
      match x.kind, (e.s.segments.get g).test with
      | .test, some t => e.testFrameEnded g (t.echoed x.sent payload)
      | .test, none => e
      | k, _ =>
        let e1 := (e.closeExchange g k).stationAnswered x.station
        if k = .command then e1.acknowledged x.station x.sent else e1.takeReport x.station payload

/-- FIELD_LINE_ERROR and FIELD_BYTE_GAP: a reply that begins and fails (R169). -/
def Ev.replyFailed (e : Ev) (g : Seg) (k : LineErrorKind) (received : List Byte) : Ev :=
  match e.s.openExchange g with
  | none => e
  | some (x, _) => e.lineError g x k received

/-- FIELD_TIMEOUT: the 8 ms have run out without a byte (R169). -/
def Ev.replyTimeout (e : Ev) (g : Seg) : Ev :=
  match e.s.openExchange g with
  | none => e
  | some (x, d) => (e.reach d).exchangeMissed g x

/-- FIELD_FRAME_SENT: the request frame ends and its 8 ms begin (R169). -/
def Ev.frameSent (e : Ev) (g : Seg) : Ev :=
  let t := e.s.after Config.replyMs
  e.mapS fun s => s.updSegment g fun x =>
    { x with exchange := x.exchange.map fun y => { y with window := some (y.window.getD t) } }

/-- The staleness timer expires (R171). -/
def Ev.stalenessExpiry (e : Ev) (i : StationId) : Ev :=
  match (e.s.stations.get i).staleTimer with
  | none => e
  | some d => (e.reach d).loseStation i 2

/-- The probe timer expires: the probe is due, and an idle segment in RUN chooses again (R172, R174). -/
def Ev.probeExpiry (e : Ev) (i : StationId) : Ev :=
  match (e.s.stations.get i).probeTimer with
  | none => e
  | some d =>
    let e1 := (e.reach d).mapS fun s => s.updStation i fun x => { x with probeTimer := none, probeDue := true }
    { e1 with sched := e1.sched ++ [((e.s.stations.get i).segment, false)] }

/-! ### Segment modes (R167, R168) -/

/-- The schedule's positions on entry to RUN (R174). -/
def Segment.startSchedule (x : Segment) : Segment :=
  { x with mode := .run, pollPos := 0, pollCount := 0, round := none, lastCommanded := 0 }

/-- A change of a segment's mode (R168, R178). A probe in flight that the change abandons leaves its station's
probe-due mark clear and its probe timer stopped: the model's choice, log entry 43. The stations that a change to
DISABLED makes LOST are taken in station-number order: the model's choice, log entry 47. -/
def Ev.setMode (e : Ev) (g : Seg) (m : SegmentMode) : Ev :=
  let e1 := (e.abortTest g).mapS fun s => s.updSegment g fun x => { x with mode := m, exchange := none }
  match m with
  | .quiet => e1
  | .disabled =>
    (e1.s.segmentStations g fun x => x.state != .lost).foldl (fun e i => e.loseStation i 3) e1
  | .run =>
    let e2 := e1.mapS fun s => s.updSegment g Segment.startSchedule
    { e2 with sched := e2.sched ++ [(g, false)] }

/-- Set Segment Mode (R168). -/
def setSegmentModeRequest (p : List Byte) (e : Ev) : Reply × Ev :=
  let g : Seg := toFin 2 (u8 p 0)
  let m := SegmentMode.ofCode (u8 p 1)
  judged [badLength p (p.length == 2), wrongState e.s (!e.s.running), above p 0 0 1, above p 1 1 2] e
    (.done [], if (e.s.segments.get g).mode = m then e else e.setMode g m)

/-- Define Segment (R167). -/
def defineSegmentRequest (p : List Byte) (e : Ev) : Reply × Ev :=
  let g : Seg := toFin 2 (u8 p 0)
  judged [badLength p (p.length == 2), wrongState e.s (e.s.part != .config), above p 0 0 1, above p 1 1 2,
      ((e.s.segments.get g).testRunning, ⟨.busy, 0, u8 p 0⟩)] e
    (.done [], e.mapS fun s => s.updSegment g fun x => { x with rate := FieldRate.ofCode (u8 p 1) })

/-- Begin Loop Test (R176). -/
def beginLoopTestRequest (p : List Byte) (e : Ev) : Reply × Ev :=
  let g : Seg := toFin 2 (u8 p 0)
  let i : StationId := toFin 96 (u8 p 1 - 1)
  let quiet := (e.s.segments.get g).mode == .quiet
  let t : TestRecord :=
    { station := i, pattern := if u8 p 2 = 0 then .prbs else .fixed ((p.drop 5).take 16), frameCount := u16 p 3
      sent := 0, returned := 0, byteErrors := 0, timeouts := 0, outcome := .running }
  let st := e.s.stations.get i
  judged [badLength p (p.length == 5 || p.length == 21),
      wrongState e.s (e.s.part == .stopping || (e.s.running && u8 p 0 ≤ 1 && !quiet)),
      above p 0 0 1, outside 1 96 (u8 p 1) 1, above p 2 2 1,
      (u8 p 2 == 1 && p.length == 5, ⟨.range, 2, u8 p 2⟩), outside 1 4000 (u16 p 3) 3,
      (!st.enabled || st.segment != g, ⟨.noObject, 1, u8 p 1⟩),
      ((e.s.segments.get g).testRunning, ⟨.busy, 0, u8 p 0⟩)] e
    (.accepted, e.mapS fun s => s.updSegment g fun x =>
      { x with testRunning := true, prbs := BitVec.allOnes 7 }.sendTest t)

/-- Abort Loop Test (R178). -/
def abortLoopTestRequest (p : List Byte) (e : Ev) : Reply × Ev :=
  judged [badLength p (p.length == 1), above p 0 0 1] e (.done [], e.abortTest (toFin 2 (u8 p 0)))

/-- The report of Read Loop Result (section 10.7). -/
def loopResultBytes (g : Seg) : Option TestRecord → List Byte
  | none => List.replicate 13 0
  | some t =>
    let pattern : Byte := match t.pattern with
      | .prbs => 0
      | .fixed _ => 1
    [1, byte g.val, byte (stationNumber t.station), pattern] ++ bytes2 t.frameCount ++ bytes2 t.sent ++
      bytes2 t.returned ++ [byte t.byteErrors, byte t.timeouts, byte t.outcome.code]

/-- Read Loop Result (R178; log entry 13). -/
def readLoopResultRequest (p : List Byte) (e : Ev) : Reply × Ev :=
  let g : Seg := toFin 2 (u8 p 0)
  judged [badLength p (p.length == 1), above p 0 0 1] e (.done (loopResultBytes g (e.s.segments.get g).test), e)

/-- The capture's part of Read Segment Errors; the station and kind of an absent capture are free bytes
(log entry 6). -/
def captureBytes (s : State) : Option Capture → List Byte
  | none => [0, s.freeByte 0, s.freeByte 1, 0, 0, 0, 0, 0]
  | some c =>
    [1, byte (stationNumber c.station), byte c.kind.code, byte c.bytes.length] ++
      (c.bytes ++ List.replicate 4 0).take 4

/-- Read Segment Errors (R179). -/
def readSegmentErrorsRequest (p : List Byte) (e : Ev) : Reply × Ev :=
  let g : Seg := toFin 2 (u8 p 0)
  let x := e.s.segments.get g
  judged [badLength p (p.length == 1), above p 0 0 1] e
    (.done ([byte x.rate.code, byte x.mode.code, byte x.errors] ++ captureBytes e.s x.capture),
     (e.mapS fun s => s.updSegment g fun y => { y with errors := 0, capture := none }).drawn)

/-! ### Define Station (R30, R91, R166) -/

/-- The slot address in the three bytes at place `i`, 255 in each for none. -/
def slotAt (p : List Byte) (i : Nat) : Option Addr := if addrIsNone p i then none else some (addrAt p i)

/-- The bindings a Define Station payload gives. -/
def bindingOf (p : List Byte) : Binding :=
  match u8 p 1 with
  | 1 => .gas (toFin 24 (u8 p 5))
  | 2 => .bay (Vector.ofFn fun i : Fin 16 => slotAt p (5 + 3 * i.val))
  | 3 => .lane (toFin 8 (u8 p 5))
  | 4 => .fan (Vector.ofFn fun c : Fin 4 => toFinOpt 32 (u8 p (5 + c.val)))
  | 5 => .light (Vector.ofFn fun c : Fin 8 => toFinOpt 64 (u8 p (5 + c.val)))
      (Vector.ofFn fun i : Fin 8 => toFinOpt 64 (u8 p (13 + i.val)))
  | 6 => .sign (toFin 32 (u8 p 5))
  | _ => .none

/-- The length of a Define Station payload for a kind code (section 10.7). -/
def stationLengthOk (p : List Byte) : Bool :=
  5 ≤ p.length && match u8 p 1 with
    | 0 => p.length == 5
    | 1 => p.length == 6
    | 2 => p.length == 53
    | 3 => p.length == 6
    | 4 => p.length == 9
    | 5 => p.length == 21
    | 6 => p.length == 6
    | _ => true

/-- RANGE of one slot address of a BAY entry, field `idx` (log entry 12). -/
def slotRange (p : List Byte) (i idx : Nat) : List (Bool × Rejection) :=
  let bound := !addrIsNone p i
  [(bound && 7 < u8 p i, ⟨.range, idx, u8 p i⟩), (bound && 31 < u8 p (i + 1), ⟨.range, idx, u8 p (i + 1)⟩),
   (bound && 63 < u8 p (i + 2), ⟨.range, idx, u8 p (i + 2)⟩)]

/-- RANGE of the bindings, in payload order (R166). -/
def bindingRanges (p : List Byte) : List (Bool × Rejection) :=
  let optional (n hi : Nat) := listChecks p 5 n (fun i => hi < u8 p i && u8 p i != 255) .range
  match u8 p 1 with
  | 1 => [above p 5 5 23]
  | 2 => (List.range 16).flatMap fun j => slotRange p (5 + 3 * j) (5 + j)
  | 3 => [above p 5 5 7]
  | 4 => optional 4 31
  | 5 => optional 16 63
  | 6 => [above p 5 5 31]
  | _ => []

/-- The entries of the table other than `i`. -/
def State.otherStations (s : State) (i : StationId) : List Station :=
  ((List.finRange 96).filter fun j => j != i).map fun j => s.stations.get j

/-- The entry binds a slot address. -/
def Binding.bindsSlot (b : Binding) (a : Addr) : Bool :=
  match b with
  | .bay inputs => inputs.toList.contains (some a)
  | _ => false

/-- The entry binds a fan. -/
def Binding.bindsFan (b : Binding) (f : FanId) : Bool := (b.fanChannel f).isSome

/-- The entry names a group, on a channel or on a motion input. -/
def Binding.namesGroup (b : Binding) (g : GroupId) : Bool :=
  match b with
  | .light channels motion => channels.toList.contains (some g) || motion.toList.contains (some g)
  | _ => false

/-- Input `j` of a BAY payload is bound to an address that another input has (R166). -/
def State.slotTaken (s : State) (p : List Byte) (i : StationId) (j : Nat) : Bool :=
  match slotAt p (5 + 3 * j) with
  | none => false
  | some a =>
    (s.otherStations i).any (fun x => x.binding.bindsSlot a) ||
      (List.range j).any fun k => slotAt p (5 + 3 * k) == some a

/-- Channel `j` of a FAN payload names a fan that another channel has (R166). -/
def State.fanTaken (s : State) (p : List Byte) (i : StationId) (j : Nat) : Bool :=
  match toFinOpt 32 (u8 p (5 + j)) with
  | none => false
  | some f =>
    (s.otherStations i).any (fun x => x.binding.bindsFan f) ||
      (List.range j).any fun k => u8 p (5 + k) == u8 p (5 + j)

/-- Field `j` of a LIGHT payload names a group that another entry has (R166). -/
def State.groupTaken (s : State) (p : List Byte) (i : StationId) (j : Nat) : Bool :=
  match toFinOpt 64 (u8 p (5 + j)) with
  | none => false
  | some g => (s.otherStations i).any fun x => x.binding.namesGroup g

/-- Motion input `j` of a LIGHT payload names a group without a channel here, or for the fifth time
(R166). -/
def motionBad (p : List Byte) (j : Nat) : Bool :=
  let v := u8 p (13 + j)
  v != 255 && (!((List.range 8).any fun c => u8 p (5 + c) == v) ||
    4 ≤ ((List.range j).filter fun k => u8 p (13 + k) == v).length)

/-- CONFLICT of the bindings, in the order of R166. For a slot address the REJECT's value is its first byte, L,
alone: the model's reading, log entry 12. -/
def bindingConflicts (s : State) (p : List Byte) (i : StationId) : List (Bool × Rejection) :=
  let others := s.otherStations i
  let at5 (bad : Bool) : Bool × Rejection := (bad, ⟨.conflict, 5, u8 p 5⟩)
  let conflict (place : Nat) (bad : Bool) : Bool × Rejection := (bad, ⟨.conflict, place, u8 p place⟩)
  match u8 p 1 with
  | 1 => [at5 (6 ≤ (others.filter fun x => x.binding == .gas (toFin 24 (u8 p 5))).length)]
  | 2 => (List.range 16).map fun j => (s.slotTaken p i j, ⟨.conflict, 5 + j, u8 p (5 + 3 * j)⟩)
  | 3 => [at5 (others.any fun x => x.binding == .lane (toFin 8 (u8 p 5)))]
  | 4 => (List.range 4).map fun j => conflict (5 + j) (s.fanTaken p i j)
  | 5 => (List.range 16).map (fun j => conflict (5 + j) (s.groupTaken p i j)) ++
      (List.range 8).map fun j => conflict (13 + j) (motionBad p j)
  | 6 => [at5 (others.any fun x => x.binding == .sign (toFin 32 (u8 p 5)))]
  | _ => []

/-- The entry is the target of a running loop test (R166). -/
def State.underTest (s : State) (i : StationId) : Bool :=
  s.segments.toList.any fun x => x.testRunning && match x.test with
    | some t => t.station == i
    | none => false

/-- The input state an enabled BAY entry gives the bays of its slots, or takes from them (R30). -/
def State.bindInputs (s : State) (x : Station) (v : Option Occ) : State :=
  match x.enabled, x.binding with
  | true, .bay inputs => inputs.toList.foldl (fun s a => match a.bind s.inputBay with
      | some (own, true) => s.updBay own fun b => { b with secondary := v }
      | some (own, false) => s.updBay own fun b => { b with primary := v }
      | none => s) s
  | _, _ => s

/-- A defined entry with the CONFIG values of R165. -/
def Station.configured (binding : Binding) (enabled : Bool) (segment : Seg) (lineAddress : Nat) : Station :=
  { Station.reset with
    binding := binding, enabled := enabled, segment := segment, lineAddress := lineAddress
    state := if enabled then .active else .disabled }

/-- A station's values on entry to CONFIG (R91, R165). -/
def Station.toConfig (x : Station) : Station := Station.configured x.binding x.enabled x.segment x.lineAddress

/-- The entry a Define Station payload gives; kind NONE removes the definition (R166). -/
def stationOf (p : List Byte) : Station :=
  if u8 p 1 = 0 then Station.reset
  else Station.configured (bindingOf p) (u8 p 2 != 0) (toFin 2 (u8 p 3)) (u8 p 4)

/-- Define Station (R166). A removal is judged for its line address like every entry (log entry 14). -/
def defineStationRequest (p : List Byte) (e : Ev) : Reply × Ev :=
  let i : StationId := toFin 96 (u8 p 0 - 1)
  let new := stationOf p
  judged ([badLength p (stationLengthOk p), wrongState e.s (e.s.part != .config), outside 1 96 (u8 p 0) 0,
      above p 1 1 6, above p 3 3 1, outside 1 63 (u8 p 4) 4] ++ bindingRanges p ++
      [((e.s.otherStations i).any (fun x =>
          x.binding != .none && x.segment.val == u8 p 3 && x.lineAddress == u8 p 4), ⟨.conflict, 4, u8 p 4⟩)] ++
      bindingConflicts e.s p i ++ [(e.s.underTest i, ⟨.busy, 0, u8 p 0⟩)]) e
    (.done [], e.mapS fun s =>
      ((s.bindInputs (s.stations.get i) none).setStation i new).bindInputs new (some .unknown))

end Sys2Proof.Machine
end

