-- ==== Sys2Proof/Machine/Operating.lean ====
section
/-!
DEFINITION. The operating states (spec/10_supervisor_link_and_operating_states.md, 10.4): entry to
CONFIG, Start, Stop, Restart, the entry to RUN and the completion of Stop SAFE; Read Status and Set
Notice Mask (R185).
-/

namespace Sys2Proof.Machine

/-! ### Entry to CONFIG (R190) -/

/-- An input state on entry to CONFIG: UNKNOWN where there is one (R30). -/
def inputToConfig (o : Option Occ) : Option Occ := o.map fun _ => .unknown

/-- A bay's dynamic values on entry to CONFIG, but for its counted-as (R12, R30, R45). -/
def Bay.toConfig (b : Bay) : Bay :=
  { b with
    primary := inputToConfig b.primary, secondary := inputToConfig b.secondary, occ := .unknown
    disagree := false, disagreeTimer := none, visited := false, changed := false }

/-- The Bay Map and the Occupancy Unit on entry to CONFIG (R12, R24, R28, R45): every bay's counted-as a
fresh evaluation with counted state UNKNOWN, and the live counts their sum. -/
def State.mapToConfig (s : State) : State :=
  let s1 := s.mapBays fun a b =>
    let c := b.toConfig
    { c with counted := s.evalBay a c }
  { s1 with
    levels := s1.levels.map fun l => { l with visited := false }
    rows := s1.rows.map fun r => { r with visited := false }
    recount := .idle, shadow := Vector.replicate 24 CountBlock.zero, live := s1.sumCounts }

/-- The Supply Limiter on entry to CONFIG: the settings kept, the deferred set empty, the over-limit flag
judged against the base load alone (R154). -/
def Supply.toConfig (x : Supply) : Supply :=
  { x with
    deferredFans := Vector.replicate 32 none, deferredGroups := Vector.replicate 64 none
    overLimit := (x.mode == .standby || 0 < x.limit) && x.limit < x.base }

/-- A segment on entry to CONFIG (R167): QUIET, its counter 0, no capture and no exchange. -/
def Segment.toConfig (x : Segment) : Segment :=
  { x with mode := .quiet, errors := 0, capture := none, exchange := none }

/-- The link on entry to CONFIG: every pending notice removed but a STOPPED entry (R190). -/
def Link.toConfig (l : Link) : Link := { l with notices := l.notices.filter fun n => n.kind == .stopped }

/-- The state on entry to CONFIG (R190): each unit takes the values its own chapter gives. -/
def State.toConfig (s : State) : State :=
  let s1 := s.mapToConfig
  { s1 with
    part := .config
    zones := s1.zones.map fun z => z.map Zone.toConfig
    lanes := s1.lanes.map fun l => { l with queue := [] }
    holds := Vector.replicate 128 none
    holdOrder := []
    panels := s1.panels.map Panel.toConfig
    fans := s1.fans.map fun f => f.map Fan.toConfig
    groups := s1.groups.map fun g => g.map Group.toConfig
    supply := s1.supply.toConfig
    stations := s1.stations.map Station.toConfig
    segments := s1.segments.map Segment.toConfig
    link := s1.link.toConfig }

/-- A test running on either segment is aborted (R178). -/
def Ev.abortTests (e : Ev) : Ev := (e.abortTest 0).abortTest 1

/-- The part enters CONFIG: tests are aborted, every unit is reset, and no work of the event is left
(R178, R190). -/
def Ev.enterConfig (e : Ev) : Ev :=
  { Ev.begin e.abortTests.s.toConfig with enteredConfig := true }

/-! ### Start (R186) -/

/-- The station's bindings name configured objects (R186 check 1). -/
def State.bindingsReady (s : State) (b : Binding) : Bool :=
  match b with
  | .none => true
  | .gas z => (s.zones.get z).isSome
  | .bay _ => true
  | .lane l => (s.lanes.get l).direction != .none
  | .fan channels => channels.toList.all fun c => match c with
    | some f => (s.fans.get f).isSome
    | none => true
  | .light channels motion => (channels.toList ++ motion.toList).all fun c => match c with
    | some g => (s.groups.get g).isSome
    | none => true
  | .sign p => (s.panels.get p).kind != .none

/-- The lane is an ENTRY lane. -/
def State.isEntry (s : State) (l : LaneId) : Bool := (s.lanes.get l).direction == .entry

/-- The panel passes check 4 of R186. -/
def State.panelReady (s : State) (i : PanelId) : Bool :=
  match (s.panels.get i).kind with
  | .lane l => s.isEntry l
  | _ => true

/-- The route entry passes check 3 of R186. -/
def State.routeReady (s : State) (i : RouteId) : Bool :=
  match s.routes.get i with
  | some r => s.isEntry r.lane
  | none => true

/-- The zone passes check 2 of R186. -/
def State.zoneReady (s : State) (z : ZoneId) : Bool :=
  (s.zones.get z).isNone || !(s.servingFans z).isEmpty

/-- The checks of Start: the field index is the number of the check, the value the object's (R186). Within a
check the lowest-numbered object at fault is named: the model's choice, log entry 44. -/
def State.startChecks (s : State) : List (Bool × Rejection) :=
  (List.finRange 96).map (fun i => let x := s.stations.get i
    (x.enabled && !s.bindingsReady x.binding, ⟨.conflict, 1, stationNumber i⟩)) ++
  (List.finRange 24).map (fun z => (!s.zoneReady z, ⟨.conflict, 2, z.val⟩)) ++
  (List.finRange 64).map (fun i => (!s.routeReady i, ⟨.conflict, 3, i.val⟩)) ++
  (List.finRange 32).map fun i => (!s.panelReady i, ⟨.conflict, 4, i.val⟩)

/-- Every enabled station's staleness timer starts (R167). -/
def State.startStaleness (s : State) : State :=
  { s with stations := s.stations.map fun x =>
      if x.enabled then { x with staleTimer := some (s.after Config.stalenessMs) } else x }

/-- Every zone's evaluation timer starts (R110). -/
def State.startEvaluations (s : State) : State :=
  { s with zones := s.zones.map fun z => z.map fun x =>
      { x with vent := { x.vent with evalTimer := some (s.after (x.profile.period * 1000)) } } }

/-- A fan that no enabled station binds enters LOST (R134). -/
def Ev.loseUnbound (e : Ev) (f : FanId) : Ev :=
  match e.s.fans.get f with
  | none => e
  | some _ => if (e.s.fanStation f).isNone then e.loseFan f else e

/-- Every defined group is to be derived (R142). -/
def Ev.markAllGroups (e : Ev) : Ev :=
  (List.finRange 64).foldl (fun e g => if (e.s.groups.get g).isSome then e.markGroup g else e) e

/-- The part enters STARTING: the work of every unit (R186, R142, R167). -/
def Ev.enterStarting (e : Ev) : Ev :=
  let e1 := e.mapS fun s => { s with part := .starting }
  let e2 := ((e1.setMode 0 .run).setMode 1 .run).mapS fun s => s.startStaleness.startEvaluations.triggerRecount
  let e3 := (List.finRange 32).foldl Ev.loseUnbound e2
  let e4 := (List.finRange 24).foldl Ev.judgeVentilated e3
  { e4.markAllGroups with panelsAll := true }

/-- Start (R186). -/
def startRequest (p : List Byte) (e : Ev) : Reply × Ev :=
  judged (badLength p p.isEmpty :: wrongState e.s (e.s.part != .config) :: e.s.startChecks) e
    (.accepted, e.enterStarting)

/-! ### Stop and Restart (R188, R190) -/

/-- A fan's wanted speed becomes its safe speed (R129). -/
def Ev.makeSafe (e : Ev) (f : FanId) : Ev :=
  match e.s.fans.get f with
  | some x => e.wantFan f (x.raised x.safeSpeed)
  | none => e

/-- The part enters STOPPING (R188, R152). -/
def Ev.enterStopping (e : Ev) : Ev :=
  let e1 := e.abortTests.mapS fun s => { s with part := .stopping }
  ((List.finRange 32).foldl Ev.makeSafe e1).markAllGroups.markStop

/-- Stop: HOLD 0, SAFE 1 (R188). -/
def stopRequest (p : List Byte) (e : Ev) : Reply × Ev :=
  judged [badLength p (p.length == 1), wrongState e.s (e.s.part == .config), above p 0 0 1,
      (u8 p 0 == 1 && e.s.part == .stopping, ⟨.busy, 0, u8 p 0⟩)] e
    (if u8 p 0 = 0 then (.done [], e.enterConfig) else (.accepted, e.enterStopping))

/-- Restart (R190). -/
def restartRequest (p : List Byte) (e : Ev) : Reply × Ev :=
  judged [badLength p p.isEmpty] e (.done [], e.enterConfig)

/-! ### Entry to RUN and completion of Stop SAFE (R187, R189) -/

/-- Every enabled station's first-result mark is had and no recount is in flight (R187). -/
def State.runReady (s : State) : Bool :=
  !s.recounting && s.stations.toList.all fun x => !x.enabled || x.firstHad

/-- The entry to RUN judged (R187; log entry 35). -/
def Ev.judgeEntryToRun (e : Ev) : Ev :=
  if e.judgeRun && e.s.part == .starting && e.s.runReady
  then (e.mapS fun s => { s with part := .run }).raise .started 0 []
  else e

/-- The station's output record does not keep a Stop SAFE from its completion (R189). -/
def Station.settled (x : Station) : Bool :=
  !x.enabled || x.state == .lost || !x.dirty || match x.binding with
    | .fan _ => false
    | .light _ _ => false
    | _ => true

/-- The fan does not keep a Stop SAFE from its completion (R189). -/
def Fan.settled (x : Fan) (deferred : Bool) : Bool :=
  x.outOfService || x.command == x.wanted || deferred

/-- Both parts of the condition of R189. -/
def State.stopReady (s : State) : Bool :=
  (s.stations.toList.all Station.settled) && (List.finRange 32).all fun f =>
    match s.fans.get f with
    | some x => x.settled (s.supply.deferredFans.get f).isSome
    | none => true

/-- The completion of Stop SAFE judged (R189; log entry 35). -/
def Ev.judgeCompletion (e : Ev) : Ev :=
  if e.judgeStop && e.s.part == .stopping && e.s.stopReady
  then e.enterConfig.raise .stopped 0 []
  else e

/-! ### Status and mask (R185) -/

/-- The recount's part of Read Status; while IDLE its cursor and restart count are free bytes (log
entry 6). -/
def recountBytes (s : State) : List Byte :=
  match s.recount with
  | .idle => [0, s.freeByte 0, s.freeByte 1, s.freeByte 2]
  | .scanning k n => [1, byte (k.val / 32), byte (k.val % 32), byte n]

/-- The report of Read Status (section 10.7). -/
def statusBytes (s : State) : List Byte :=
  let l := s.link
  [byte s.part.code, l.flags.toByte] ++ bytes2 l.notices.length ++ bytes2 l.mask.toNat ++ recountBytes s ++
    s.segments.toList.flatMap (fun x => [byte x.mode.code, flagByte x.testRunning]) ++
    [byte s.supply.mode.code] ++ bytes2 s.supply.limit ++ bytes3 s.committed ++ bytes3Int s.headroom ++
    [flagByte s.supply.overLimit, byte s.deferredCount]

/-- Read Status (R185). -/
def readStatusRequest (p : List Byte) (e : Ev) : Reply × Ev :=
  let e1 := if u8 p 0 = 1 then e.mapS fun s => s.setLink { s.link with flags := LinkFlags.clear } else e
  judged [badLength p (p.length == 1), above p 0 0 1] e (.done (statusBytes e.s), e1.drawn)

/-- Set Notice Mask (R185). -/
def setNoticeMaskRequest (p : List Byte) (e : Ev) : Reply × Ev :=
  let m : BitVec 12 := BitVec.ofNat 12 (u16 p 0)
  let e1 := e.mapS fun s =>
    let l : Link := { s.link with mask := m }
    s.setLink { l with notices := l.notices.filter fun n => l.enabled n.kind }
  judged [badLength p (p.length == 2), (4095 < u16 p 0, ⟨.range, 0, u16 p 0⟩)] e (.done [], e1)

end Sys2Proof.Machine
end

