-- ==== Sys2Proof/Machine/Finish.lean ====
section
/-!
DEFINITION. The end of an event: the work every unit left for it, in the order the rules give (log
entry 22), and the forms a step has: a request, and an event of another kind.
-/

namespace Sys2Proof.Machine

/-- A bound on the ramp steps of one event: each fan is judged again at most as often as it is marked. -/
def rampFuel : Nat := 2048

/-- The Guidance, Ventilation, Lighting and Panel Units' work at the end of an event, in this order:
heads (R64), ramps (R130), groups (R142), the ramps that those let step, panels (R78). -/
def Ev.settle (e : Ev) : Ev :=
  let e1 := Ev.rampMarked rampFuel e.assignHeads
  (Ev.rampMarked rampFuel e1.deriveGroups).derivePanels

/-- The state changes that close an event: entry to RUN (R187), completion of a stop (R189), the next
exchanges (R174). -/
def Ev.conclude (e : Ev) : Ev := e.judgeEntryToRun.judgeCompletion.runSchedule

/-- The link at the end of an event: the new notices join the set, and an idle transmitter starts a frame
(R183, R184; log entry 7). -/
def Ev.close (e : Ev) : State := e.s.judgeOver.setLink (e.s.link.join e.fresh).pump

/-- The end of an event that began in `old`. The ZONE_STATE notices compare the guidance states before
and after it; an entry to CONFIG raises none (R50). -/
def Ev.finish (old : State) (e : Ev) : State :=
  let e1 := e.settle
  let e2 := if e1.enteredConfig then e1 else e1.raiseZoneStates old
  e2.conclude.close

/-- A request completes as a good frame (R181, R182; log entry 1): discarded with OVERRUN while a request
is in hand; otherwise checked, answered and carried out in this event. -/
def State.request (s : State) (tag : Byte) (r : Ev → Reply × Ev) : State :=
  if s.link.waiting.isSome then s.setLink { s.link with flags := s.link.flags.setOverrun }
  else
    let (reply, e) := r (Ev.begin s)
    (e.queueReply tag reply).finish s

/-- An event that is no request: the work `f` of its unit, and the end of the event. -/
def State.event (s : State) (f : Ev → Ev) : State := (f (Ev.begin s)).finish s

/-- The state with a reply queued and the event closed: what a request leaves when, beside its reply and
the change it made to `s`, no unit has work for the end of the event. -/
def State.answered (s : State) (tag : Byte) (r : Reply) : State := ((Ev.begin s).queueReply tag r).close

/-- The state with the event closed: what an event leaves when no unit has work for its end. -/
def State.closed (s : State) : State := (Ev.begin s).close

end Sys2Proof.Machine
end

