-- ==== Sys2Proof/Machine/Link.lean ====
section
/-!
DEFINITION. The Supervisor Link's line (spec/10_supervisor_link_and_operating_states.md, 10.1 and 10.2):
the receiver, the request a good frame carries, the end of a frame sent, and the power reset.
-/

namespace Sys2Proof.Machine

/-! ### Requests by KIND (10.6) -/

/-- UNKNOWN_KIND (R182). -/
def unknownKindRequest (kind : Byte) (e : Ev) : Reply × Ev := (.reject ⟨.unknownKind, 0, kind.toNat⟩, e)

/-- The request of a KIND, judged and carried out by its own rule (10.6). -/
def requestOf (kind : Byte) (p : List Byte) : Ev → Reply × Ev :=
  match kind.toNat with
  | 0x10 => setCursorRequest p
  | 0x11 => loadSlotsRequest p
  | 0x12 => readSlotsRequest p
  | 0x13 => probeBayRequest p
  | 0x14 => sweepRowRequest p
  | 0x15 => writeLevelRequest p
  | 0x16 => writeRowRequest p
  | 0x17 => setWindowRequest p
  | 0x20 => defineZoneRequest p
  | 0x21 => defineFanRequest p
  | 0x22 => defineGroupRequest p
  | 0x23 => definePanelRequest p
  | 0x24 => defineRouteRequest p
  | 0x25 => defineLaneRequest p
  | 0x26 => defineStationRequest p
  | 0x27 => defineSegmentRequest p
  | 0x30 => startRequest p
  | 0x31 => stopRequest p
  | 0x32 => restartRequest p
  | 0x33 => readStatusRequest p
  | 0x40 => readZoneRequest p
  | 0x41 => readFanRequest p
  | 0x42 => readGroupRequest p
  | 0x43 => readLaneRequest p
  | 0x44 => listHoldsRequest p
  | 0x50 => setProgrammeRequest p
  | 0x51 => beginPurgeRequest p
  | 0x52 => endPurgeRequest p
  | 0x53 => closeZoneRequest p
  | 0x54 => openZoneRequest p
  | 0x55 => forceGroupRequest p
  | 0x56 => clearFanFaultRequest p
  | 0x57 => setSupplyRequest p
  | 0x60 => setSegmentModeRequest p
  | 0x61 => beginLoopTestRequest p
  | 0x62 => abortLoopTestRequest p
  | 0x63 => readLoopResultRequest p
  | 0x64 => readSegmentErrorsRequest p
  | 0x70 => setNoticeMaskRequest p
  | _ => unknownKindRequest kind

/-- A good frame with the body `body`: KIND, TAG and PAYLOAD (R182). -/
def State.goodFrame (s : State) (body : List Byte) : State :=
  s.request (body.getD 1 0) (requestOf (body.getD 0 0) (body.drop 2))

/-! ### The receiver (R180, R181) -/

/-- The receiver goes to state `r`; the 10 ms of a gap run from this byte while it is inside a frame. -/
def State.receive (s : State) (r : Receiver) : State :=
  s.setLink { s.link with
    receiver := r
    gapTimer := if r = .hunt then none else some (s.after Config.linkGapMs) }

/-- The receiver returns to HUNT with a flag set (R181). -/
def State.discard (s : State) (f : LinkFlags → LinkFlags) : State :=
  s.setLink { s.link with receiver := .hunt, gapTimer := none, flags := f s.link.flags }

/-- The state of the receiver that a byte stored in the body leads to (R180). -/
def bodyNext (len : Nat) (bytes : List Byte) : Receiver :=
  if bytes.length < len then .body len bytes else .check len bytes none

/-- A byte with a correct stop bit (R180). -/
def State.receiveByte (s : State) (b : Byte) : State :=
  match s.link.receiver with
  | .hunt => if b = 0xA5 then s.receive .length else s
  | .length =>
    if 2 ≤ b.toNat ∧ b.toNat ≤ 250 then s.receive (.body b.toNat []) else s.discard LinkFlags.setLength
  | .body len bytes => s.receive (bodyNext len (bytes ++ [b]))
  | .check len bytes none => s.receive (.check len bytes (some b))
  | .check len bytes (some high) =>
    if crcBytes (byte len :: bytes) = [high, b] then (s.receive .hunt).goodFrame bytes
    else s.discard LinkFlags.setCheckError

/-- LINK_BYTE: a byte arrives on SRXD (R180); with a stop-bit error the frame is discarded (R181). -/
def State.linkByte (s : State) (b : Byte) (stopOk : Bool) : State :=
  if stopOk then s.receiveByte b else s.discard LinkFlags.setFraming

/-- GAP: the 10 ms run out inside a frame (R181); nothing outside one (log entry 4). -/
def State.linkGap (s : State) : State :=
  match s.link.gapTimer with
  | none => s
  | some d => ({ s with now := max s.now d } : State).discard LinkFlags.setGap

/-! ### The transmitter and the power reset -/

/-- The frame being sent ends, and the next one starts (R183). -/
def State.transmitEnd (s : State) : State :=
  match s.link.tx with
  | none => s
  | some _ => s.setLink ({ s.link with tx := none } : Link).pump

/-- The bit rate of the straps (chapter 0, section 7). -/
def rateOf (lrs1 lrs0 : Bool) : LinkRate :=
  match lrs1, lrs0 with
  | false, false => .r57600
  | false, true => .r115200
  | true, _ => .r230400

/-- The state after a power reset with the straps sampled; the queue of commands and the counter of free
bytes are the model's own and stay (log entry 8). -/
def State.powerReset (s : State) (lrs1 lrs0 : Bool) : State :=
  { State.reset with link := Link.reset (rateOf lrs1 lrs0), draws := s.draws, pending := s.pending }

end Sys2Proof.Machine
end

