-- ==== Sys2Proof/Machine/Commands.lean ====
section
/-!
DEFINITION. The meaning of each command, one definition for each row of spec/opcode_table.json: a request
taken by its own rule, or an event of a unit, and the end of the event.
-/

namespace Sys2Proof.Machine

/-- The answer of a command: every one of them has a next state (INVENTORY.md, Faults). -/
abbrev Result := Host.Outcome State Fault Refusal

/-- POWER_RESET (R190): RESET_N held low and released puts the part in CONFIG with power-reset
values throughout. -/
def execPowerReset (lrs1 lrs0 : Bool) (s : State) : Result :=
  .next (s.powerReset lrs1 lrs0)

/-- LINK_BYTE (R180): A byte arrives on SRXD and the receiver advances through HUNT, LENGTH, BODY or
CHECK. -/
def execLinkByte (b : Byte) (stopOk : Bool) (s : State) : Result :=
  .next (s.linkByte b stopOk)

/-- GAP (R181): More than 10 ms pass without a byte inside a frame, so the receiver sets GAP and
returns to HUNT. -/
def execGap (s : State) : Result :=
  .next (s.linkGap)

/-- UNKNOWN_KIND (R182): A good frame whose KIND is not a request code is refused with REJECT
UNKNOWN_KIND. -/
def execUnknownKind (kind tag : Byte) (payload : List Byte) (s : State) : Result :=
  .next (s.goodFrame (kind :: tag :: payload))

/-- FRAME_TRANSMIT_END (R183): The transmitter finishes a frame and sends any waiting reply, or else
the oldest pending notice. -/
def execFrameTransmitEnd (s : State) : Result :=
  .next (s.transmitEnd)

/-- SET_CURSOR (R15): Places the map cursor at the named address. -/
def execSetCursor (tag : Byte) (payload : List Byte) (s : State) : Result :=
  .next (s.request tag (setCursorRequest payload))

/-- LOAD_SLOTS (R16): Applies 1–24 slot descriptors from the cursor, stopping at the first refused
one. -/
def execLoadSlots (tag : Byte) (payload : List Byte) (s : State) : Result :=
  .next (s.request tag (loadSlotsRequest payload))

/-- READ_SLOTS (R20): Reads 1–24 slot descriptors from the cursor and advances it. -/
def execReadSlots (tag : Byte) (payload : List Byte) (s : State) : Result :=
  .next (s.request tag (readSlotsRequest payload))

/-- PROBE_BAY (R14): Walks an address and reports its end, alias, effective level, closure, windows
and counted-as. -/
def execProbeBay (tag : Byte) (payload : List Byte) (s : State) : Result :=
  .next (s.request tag (probeBayRequest payload))

/-- SWEEP_ROW (R13): Reports and clears the history bits of a row, its slots and its level. -/
def execSweepRow (tag : Byte) (payload : List Byte) (s : State) : Result :=
  .next (s.request tag (sweepRowRequest payload))

/-- WRITE_LEVEL (R21): Writes a level record's present, closed and RL fields. -/
def execWriteLevel (tag : Byte) (payload : List Byte) (s : State) : Result :=
  .next (s.request tag (writeLevelRequest payload))

/-- WRITE_ROW (R22): Writes a row entry's binding, closed and RL fields, clearing the slots of an
unbound table. -/
def execWriteRow (tag : Byte) (payload : List Byte) (s : State) : Result :=
  .next (s.request tag (writeRowRequest payload))

/-- SET_WINDOW (R11): Writes all fields of an overlay window and starts or restarts a recount. -/
def execSetWindow (tag : Byte) (payload : List Byte) (s : State) : Result :=
  .next (s.request tag (setWindowRequest payload))

/-- DEFINE_ZONE (R98): Writes a zone's profile, either in effect in CONFIG or as the pending
profile. -/
def execDefineZone (tag : Byte) (payload : List Byte) (s : State) : Result :=
  .next (s.request tag (defineZoneRequest payload))

/-- DEFINE_FAN (R128): Writes or removes a fan's configured fields. -/
def execDefineFan (tag : Byte) (payload : List Byte) (s : State) : Result :=
  .next (s.request tag (defineFanRequest payload))

/-- DEFINE_GROUP (R138): Writes or removes a lighting group's configured fields. -/
def execDefineGroup (tag : Byte) (payload : List Byte) (s : State) : Result :=
  .next (s.request tag (defineGroupRequest payload))

/-- DEFINE_PANEL (R77): Writes a panel's kind and configuration. -/
def execDefinePanel (tag : Byte) (payload : List Byte) (s : State) : Result :=
  .next (s.request tag (definePanelRequest payload))

/-- DEFINE_ROUTE (R75): Writes or removes a route entry and retries the lane's NO_SPACE head outside
CONFIG. -/
def execDefineRoute (tag : Byte) (payload : List Byte) (s : State) : Result :=
  .next (s.request tag (defineRouteRequest payload))

/-- DEFINE_LANE (R51): Writes a lane's direction, ceiling and movement zones. -/
def execDefineLane (tag : Byte) (payload : List Byte) (s : State) : Result :=
  .next (s.request tag (defineLaneRequest payload))

/-- DEFINE_STATION (R166): Writes or removes a station table entry and its bindings. -/
def execDefineStation (tag : Byte) (payload : List Byte) (s : State) : Result :=
  .next (s.request tag (defineStationRequest payload))

/-- DEFINE_SEGMENT (R167): Writes a segment's bit rate. -/
def execDefineSegment (tag : Byte) (payload : List Byte) (s : State) : Result :=
  .next (s.request tag (defineSegmentRequest payload))

/-- START (R186): Checks the configuration and enters STARTING, handing the entry to every unit. -/
def execStart (tag : Byte) (payload : List Byte) (s : State) : Result :=
  .next (s.request tag (startRequest payload))

/-- STOP_HOLD (R188): Stop in the HOLD form enters CONFIG at once. -/
def execStopHold (tag : Byte) (s : State) : Result :=
  .next (s.request tag (stopRequest [0]))

/-- STOP_SAFE (R188): Stop in the SAFE form enters STOPPING, setting safe fan speeds and full light
levels. -/
def execStopSafe (tag : Byte) (s : State) : Result :=
  .next (s.request tag (stopRequest [1]))

/-- RESTART (R190): Puts the part into CONFIG from any state. -/
def execRestart (tag : Byte) (payload : List Byte) (s : State) : Result :=
  .next (s.request tag (restartRequest payload))

/-- READ_STATUS (R185): Reports the part, link, notice, recount, segment and supply status and
optionally clears the link flags. -/
def execReadStatus (tag : Byte) (payload : List Byte) (s : State) : Result :=
  .next (s.request tag (readStatusRequest payload))

/-- READ_ZONE (R108): Reports a zone's counts, guidance state, air state, profile and ventilation
record. -/
def execReadZone (tag : Byte) (payload : List Byte) (s : State) : Result :=
  .next (s.request tag (readZoneRequest payload))

/-- READ_FAN (R136): Reports a fan's configured and dynamic fields. -/
def execReadFan (tag : Byte) (payload : List Byte) (s : State) : Result :=
  .next (s.request tag (readFanRequest payload))

/-- READ_GROUP (R153): Reports a lighting group's configured and dynamic fields. -/
def execReadGroup (tag : Byte) (payload : List Byte) (s : State) : Result :=
  .next (s.request tag (readGroupRequest payload))

/-- READ_LANE (R59): Reports a lane record and its arrival queue. -/
def execReadLane (tag : Byte) (payload : List Byte) (s : State) : Result :=
  .next (s.request tag (readLaneRequest payload))

/-- LIST_HOLDS (R73): Reports up to 12 holds in id order from a starting id. -/
def execListHolds (tag : Byte) (payload : List Byte) (s : State) : Result :=
  .next (s.request tag (listHoldsRequest payload))

/-- SET_PROGRAMME (R117): Writes a zone's base programme, which takes effect at once while the
overlay is NONE. -/
def execSetProgramme (tag : Byte) (payload : List Byte) (s : State) : Result :=
  .next (s.request tag (setProgrammeRequest payload))

/-- BEGIN_PURGE (R123): Starts a COMMANDED purge of a zone or restarts its duration timer. -/
def execBeginPurge (tag : Byte) (payload : List Byte) (s : State) : Result :=
  .next (s.request tag (beginPurgeRequest payload))

/-- END_PURGE (R124): Ends a COMMANDED purge of a zone. -/
def execEndPurge (tag : Byte) (payload : List Byte) (s : State) : Result :=
  .next (s.request tag (endPurgeRequest payload))

/-- CLOSE_ZONE (R48): Adds COMMANDED to a zone's closure cause set. -/
def execCloseZone (tag : Byte) (payload : List Byte) (s : State) : Result :=
  .next (s.request tag (closeZoneRequest payload))

/-- OPEN_ZONE (R48): Removes COMMANDED from a zone's closure cause set. -/
def execOpenZone (tag : Byte) (payload : List Byte) (s : State) : Result :=
  .next (s.request tag (openZoneRequest payload))

/-- FORCE_GROUP (R143): Sets or clears a group's forced-by-command flag. -/
def execForceGroup (tag : Byte) (payload : List Byte) (s : State) : Result :=
  .next (s.request tag (forceGroupRequest payload))

/-- CLEAR_FAN_FAULT (R133): Returns a fan in FAULT to STOPPED. -/
def execClearFanFault (tag : Byte) (payload : List Byte) (s : State) : Result :=
  .next (s.request tag (clearFanFaultRequest payload))

/-- SET_SUPPLY (R155): Replaces the supply settings, then sheds, raises or serves the deferred set
and judges the over-limit flag. -/
def execSetSupply (tag : Byte) (payload : List Byte) (s : State) : Result :=
  .next (s.request tag (setSupplyRequest payload))

/-- SET_SEGMENT_MODE (R168): Changes a segment's mode to RUN, QUIET or DISABLED. -/
def execSetSegmentMode (tag : Byte) (payload : List Byte) (s : State) : Result :=
  .next (s.request tag (setSegmentModeRequest payload))

/-- BEGIN_LOOP_TEST (R176): Starts a loop test on a segment and sends its first test frame. -/
def execBeginLoopTest (tag : Byte) (payload : List Byte) (s : State) : Result :=
  .next (s.request tag (beginLoopTestRequest payload))

/-- ABORT_LOOP_TEST (R178): Aborts the loop test running on a segment. -/
def execAbortLoopTest (tag : Byte) (payload : List Byte) (s : State) : Result :=
  .next (s.request tag (abortLoopTestRequest payload))

/-- READ_LOOP_RESULT (R178): Reports a segment's loop-test result record. -/
def execReadLoopResult (tag : Byte) (payload : List Byte) (s : State) : Result :=
  .next (s.request tag (readLoopResultRequest payload))

/-- READ_SEGMENT_ERRORS (R179): Reports and clears a segment's error counter and first-error
capture. -/
def execReadSegmentErrors (tag : Byte) (payload : List Byte) (s : State) : Result :=
  .next (s.request tag (readSegmentErrorsRequest payload))

/-- SET_NOTICE_MASK (R185): Replaces the notice mask and removes pending entries of the kinds now
disabled. -/
def execSetNoticeMask (tag : Byte) (payload : List Byte) (s : State) : Result :=
  .next (s.request tag (setNoticeMaskRequest payload))

/-- RECOUNT_ROW_STEP (R26): The scanning recount evaluates one row into the shadow counts and
advances its cursor. -/
def execRecountRowStep (s : State) : Result :=
  .next (s.event Ev.rowStep)

/-- FIELD_FRAME_SENT (R169): A request frame finishes on a segment, beginning the exchange and its 8
ms reply window. -/
def execFieldFrameSent (seg : Seg) (s : State) : Result :=
  .next (s.event fun e => e.frameSent seg)

/-- FIELD_GOOD_REPLY (R169): A complete, correct reply frame ends an exchange. -/
def execFieldGoodReply (seg : Seg) (payload : List Byte) (s : State) : Result :=
  .next (s.event fun e => e.goodReply seg payload)

/-- FIELD_LINE_ERROR (R169): A reply that begins and fails ends the exchange, counts an error and
fills the capture. -/
def execFieldLineError (seg : Seg) (kind : LineErrorKind) (received : List Byte) (s : State) : Result :=
  .next (s.event fun e => e.replyFailed seg kind received)

/-- FIELD_BYTE_GAP (R169): More than 2 ms between reply bytes ends the exchange as a LENGTH line
error. -/
def execFieldByteGap (seg : Seg) (received : List Byte) (s : State) : Result :=
  .next (s.event fun e => e.replyFailed seg .length received)

/-- FIELD_TIMEOUT (R169): No reply byte within 8 ms ends the exchange as a timeout. -/
def execFieldTimeout (seg : Seg) (s : State) : Result :=
  .next (s.event fun e => e.replyTimeout seg)

/-- STALENESS_EXPIRY (R171): A station's 30 s staleness timer expires and the station becomes LOST.
-/
def execStalenessExpiry (station : StationId) (s : State) : Result :=
  .next (s.event fun e => e.stalenessExpiry station)

/-- PROBE_TIMER_EXPIRY (R172): A LOST station's 10 s probe timer expires and sets its probe-due
mark. -/
def execProbeTimerExpiry (station : StationId) (s : State) : Result :=
  .next (s.event fun e => e.probeExpiry station)

/-- BAY_DISAGREE (R35): A bay's 60 s disagree timer expires, setting its flag and raising
BAY_DISAGREE. -/
def execBayDisagree (bay : Addr) (s : State) : Result :=
  .next (s.event fun e => e.disagreeExpiry bay)

/-- EXPIRED (R70): A hold's expiry timer runs out and the hold is released as EXPIRED. -/
def execExpired (hold : HoldId) (s : State) : Result :=
  .next (s.event fun e => e.holdExpiry hold)

/-- HOLD_OFF_EXPIRY (R88): A COUNT panel's 5 s hold-off timer expires and a dirty panel becomes
ready to send. -/
def execHoldOffExpiry (panel : PanelId) (s : State) : Result :=
  .next (s.event fun e => e.holdOffExpiry panel)

/-- ZONE_EVALUATION (R110): A zone's evaluation timer expires, the zone is evaluated stage by stage
and the timer restarts. -/
def execZoneEvaluation (zone : ZoneId) (s : State) : Result :=
  .next (s.event fun e => e.evaluateZone zone)

/-- MIN_PURGE_EXPIRY (R122): The minimum purge timer expires and sets its run-out mark. -/
def execMinPurgeExpiry (zone : ZoneId) (s : State) : Result :=
  .next (s.event fun e => e.minPurgeExpiry zone)

/-- PURGE_DURATION_EXPIRY (R124): The purge duration timer expires and ends the COMMANDED purge. -/
def execPurgeDurationExpiry (zone : ZoneId) (s : State) : Result :=
  .next (s.event fun e => e.durationExpiry zone)

/-- RAMP_TIMER_EXPIRY (R130): A fan's 2 s ramp timer ends, and another step is taken or the ramp
becomes IDLE. -/
def execRampTimerExpiry (fan : FanId) (s : State) : Result :=
  .next (s.event fun e => e.rampExpiry fan)

/-- START_TIMER_EXPIRY (R132): A fan's 30 s start timer expires and the fan enters FAULT with
START_TIMEOUT. -/
def execStartTimerExpiry (fan : FanId) (s : State) : Result :=
  .next (s.event fun e => e.startTimerExpiry fan)

/-- STOP_TIMER_EXPIRY (R132): A fan's 60 s stop timer expires and the fan enters FAULT with
STOP_TIMEOUT. -/
def execStopTimerExpiry (fan : FanId) (s : State) : Result :=
  .next (s.event fun e => e.stopTimerExpiry fan)

/-- PRESENCE_TIMER_EXPIRY (R140): A group's presence timer expires and the group is derived again.
-/
def execPresenceTimerExpiry (group : GroupId) (s : State) : Result :=
  .next (s.event fun e => e.presenceExpiry group)

/-- FADE_TIMER_EXPIRY (R147): A group's 1 s fade timer expires and its commanded level falls by the
fade step. -/
def execFadeTimerExpiry (group : GroupId) (s : State) : Result :=
  .next (s.event fun e => e.fadeExpiry group)

end Sys2Proof.Machine
end

