-- ==== Sys2Proof/Machine/Dispatch.lean ====
section
/-!
DEFINITION. The dispatch: one arm for each command, one direct call of its meaning.
-/

namespace Sys2Proof.Machine

def exec (i : Instr) (s : State) : Host.Outcome State Fault Refusal :=
  match i with
  | .powerReset lrs1 lrs0 => Sys2Proof.Machine.execPowerReset lrs1 lrs0 s
  | .linkByte b stopOk => Sys2Proof.Machine.execLinkByte b stopOk s
  | .gap => Sys2Proof.Machine.execGap s
  | .unknownKind kind tag payload => Sys2Proof.Machine.execUnknownKind kind tag payload s
  | .frameTransmitEnd => Sys2Proof.Machine.execFrameTransmitEnd s
  | .setCursor tag payload => Sys2Proof.Machine.execSetCursor tag payload s
  | .loadSlots tag payload => Sys2Proof.Machine.execLoadSlots tag payload s
  | .readSlots tag payload => Sys2Proof.Machine.execReadSlots tag payload s
  | .probeBay tag payload => Sys2Proof.Machine.execProbeBay tag payload s
  | .sweepRow tag payload => Sys2Proof.Machine.execSweepRow tag payload s
  | .writeLevel tag payload => Sys2Proof.Machine.execWriteLevel tag payload s
  | .writeRow tag payload => Sys2Proof.Machine.execWriteRow tag payload s
  | .setWindow tag payload => Sys2Proof.Machine.execSetWindow tag payload s
  | .defineZone tag payload => Sys2Proof.Machine.execDefineZone tag payload s
  | .defineFan tag payload => Sys2Proof.Machine.execDefineFan tag payload s
  | .defineGroup tag payload => Sys2Proof.Machine.execDefineGroup tag payload s
  | .definePanel tag payload => Sys2Proof.Machine.execDefinePanel tag payload s
  | .defineRoute tag payload => Sys2Proof.Machine.execDefineRoute tag payload s
  | .defineLane tag payload => Sys2Proof.Machine.execDefineLane tag payload s
  | .defineStation tag payload => Sys2Proof.Machine.execDefineStation tag payload s
  | .defineSegment tag payload => Sys2Proof.Machine.execDefineSegment tag payload s
  | .start tag payload => Sys2Proof.Machine.execStart tag payload s
  | .stopHold tag => Sys2Proof.Machine.execStopHold tag s
  | .stopSafe tag => Sys2Proof.Machine.execStopSafe tag s
  | .restart tag payload => Sys2Proof.Machine.execRestart tag payload s
  | .readStatus tag payload => Sys2Proof.Machine.execReadStatus tag payload s
  | .readZone tag payload => Sys2Proof.Machine.execReadZone tag payload s
  | .readFan tag payload => Sys2Proof.Machine.execReadFan tag payload s
  | .readGroup tag payload => Sys2Proof.Machine.execReadGroup tag payload s
  | .readLane tag payload => Sys2Proof.Machine.execReadLane tag payload s
  | .listHolds tag payload => Sys2Proof.Machine.execListHolds tag payload s
  | .setProgramme tag payload => Sys2Proof.Machine.execSetProgramme tag payload s
  | .beginPurge tag payload => Sys2Proof.Machine.execBeginPurge tag payload s
  | .endPurge tag payload => Sys2Proof.Machine.execEndPurge tag payload s
  | .closeZone tag payload => Sys2Proof.Machine.execCloseZone tag payload s
  | .openZone tag payload => Sys2Proof.Machine.execOpenZone tag payload s
  | .forceGroup tag payload => Sys2Proof.Machine.execForceGroup tag payload s
  | .clearFanFault tag payload => Sys2Proof.Machine.execClearFanFault tag payload s
  | .setSupply tag payload => Sys2Proof.Machine.execSetSupply tag payload s
  | .setSegmentMode tag payload => Sys2Proof.Machine.execSetSegmentMode tag payload s
  | .beginLoopTest tag payload => Sys2Proof.Machine.execBeginLoopTest tag payload s
  | .abortLoopTest tag payload => Sys2Proof.Machine.execAbortLoopTest tag payload s
  | .readLoopResult tag payload => Sys2Proof.Machine.execReadLoopResult tag payload s
  | .readSegmentErrors tag payload => Sys2Proof.Machine.execReadSegmentErrors tag payload s
  | .setNoticeMask tag payload => Sys2Proof.Machine.execSetNoticeMask tag payload s
  | .recountRowStep => Sys2Proof.Machine.execRecountRowStep s
  | .fieldFrameSent seg => Sys2Proof.Machine.execFieldFrameSent seg s
  | .fieldGoodReply seg payload => Sys2Proof.Machine.execFieldGoodReply seg payload s
  | .fieldLineError seg kind received => Sys2Proof.Machine.execFieldLineError seg kind received s
  | .fieldByteGap seg received => Sys2Proof.Machine.execFieldByteGap seg received s
  | .fieldTimeout seg => Sys2Proof.Machine.execFieldTimeout seg s
  | .stalenessExpiry station => Sys2Proof.Machine.execStalenessExpiry station s
  | .probeTimerExpiry station => Sys2Proof.Machine.execProbeTimerExpiry station s
  | .bayDisagree bay => Sys2Proof.Machine.execBayDisagree bay s
  | .expired hold => Sys2Proof.Machine.execExpired hold s
  | .holdOffExpiry panel => Sys2Proof.Machine.execHoldOffExpiry panel s
  | .zoneEvaluation zone => Sys2Proof.Machine.execZoneEvaluation zone s
  | .minPurgeExpiry zone => Sys2Proof.Machine.execMinPurgeExpiry zone s
  | .purgeDurationExpiry zone => Sys2Proof.Machine.execPurgeDurationExpiry zone s
  | .rampTimerExpiry fan => Sys2Proof.Machine.execRampTimerExpiry fan s
  | .startTimerExpiry fan => Sys2Proof.Machine.execStartTimerExpiry fan s
  | .stopTimerExpiry fan => Sys2Proof.Machine.execStopTimerExpiry fan s
  | .presenceTimerExpiry group => Sys2Proof.Machine.execPresenceTimerExpiry group s
  | .fadeTimerExpiry group => Sys2Proof.Machine.execFadeTimerExpiry group s

end Sys2Proof.Machine
end

