-- ==== Sys2Proof/Machine/Step.lean ====
section
/-!
DEFINITION. One step: the command at the front of the queue is taken and carried out with the queue's
rest; on an empty queue the clock alone goes on (log entry 2).
-/

namespace Sys2Proof.Machine

/-- A step on an empty queue: the clock advances by one tick. -/
def State.tick (s : State) : State := { s with now := s.now + Config.tickMs }

/-- One step of the KQ480. -/
def step (s : State) : Host.Outcome State Fault Refusal :=
  match s.pending with
  | [] => .next s.tick
  | c :: rest => exec c { s with pending := rest }

/-- The state with the command that a word spells put at the front of its queue, unchanged where the word
spells none. -/
def State.withFetchWord (s : State) (nbits w : Nat) : State :=
  match decodeTableWord nbits w with
  | some c => { s with pending := c :: s.pending }
  | none => s

end Sys2Proof.Machine
end

