-- ==== Sys2Proof/Safety.lean ====
section
/-!
DEFINITION. What a safe run is, in the terms the claims use: the laws of the device that the spec names,
the rows a frame of the link spells, what an event tells in a notice, and the part of the state that an event's own
rule settles.
-/

namespace Sys2Proof.Machine

/-- A step answers a next state: the part goes on. -/
def Runs (s : State) : Prop := ∃ t, step s = .next t

/-! ### Laws of the device -/

/-- The law of the pending notice set (R184): each key at most once, and no kind that the mask disables. -/
def NoticeLaw (s : State) : Prop :=
  s.link.notices.Pairwise (fun n m => n.sameKey m = false) ∧ ∀ n ∈ s.link.notices, s.link.enabled n.kind = true

/-- The law of the arrival queues (R52): at most 4 arrivals, and every one behind the head is WAITING. -/
def QueueLaw (s : State) : Prop :=
  ∀ l : LaneId, (s.lanes.get l).queue.length ≤ 4 ∧ ∀ a ∈ (s.lanes.get l).queue.tail, a.state = .waiting

/-- A reading as R92 records it: CO at most 500, NO2 at most 200. -/
def Reading.bounded (r : Reading) : Prop := r.co ≤ 500 ∧ r.no2 ≤ 200

/-- The averages of a zone within their ranges (R101). -/
def Air.bounded (a : Air) : Prop := a.aCo ≤ 8000 ∧ a.lCo ≤ 8000 ∧ a.aNo2 ≤ 3200 ∧ a.lNo2 ≤ 3200

/-- The law of the averages (R101), with the bound on the readings it rests on (R91, R92). -/
def AirLaw (s : State) : Prop :=
  (∀ i : StationId, (s.stations.get i).reading.bounded) ∧
  ∀ (z : ZoneId) (x : Zone), s.zones.get z = some x → x.air.bounded

/-- Fields 1-24 of a profile lie within their ranges (R98). -/
def Profile.inRange (p : Profile) : Prop := ∀ r ∈ profileRanges.zip p.fields, r.1.1 ≤ r.2 ∧ r.2 ≤ r.1.2

/-- The relations of one gas's levels (R99). -/
def Ladder.consistent (l : Ladder) : Prop :=
  l.low < l.high ∧ l.high ≤ l.alarm ∧ l.alarm < l.peak ∧ l.clear < l.alarm ∧ l.advisory ≤ l.alarm

/-- The relations of a profile (R99). -/
def Profile.consistent (p : Profile) : Prop :=
  p.co.consistent ∧ p.no2.consistent ∧ p.stopThreshold < p.startThreshold ∧ p.nightFloor ≤ p.nightCeiling

/-- The demands of a zone within 0-100, and its movement counts within 0-255 (R109, R114). -/
def Vent.bounded (v : Vent) : Prop :=
  v.manualValue ≤ 100 ∧ v.dCo ≤ 100 ∧ v.dNo2 ≤ 100 ∧ v.dTraffic ≤ 100 ∧ v.demand ≤ 100 ∧ v.z ≤ 100 ∧
    v.e ≤ 255 ∧ v.m ≤ 255

/-- The law of demand (R114), with the ranges of the profiles it rests on (R98). -/
def DemandLaw (s : State) : Prop :=
  ∀ (z : ZoneId) (x : Zone), s.zones.get z = some x →
    x.profile.inRange ∧ (∀ p, x.pendingProfile = some p → p.inRange) ∧ x.vent.bounded

/-- The law of targets and wanted speeds (R129), with the ranges of the fan's fields it rests on (R127): both
are 0, or lie between the fan's minimum speed and 100. -/
def FanLaw (s : State) : Prop :=
  ∀ (f : FanId) (x : Fan), s.fans.get f = some x →
    x.minSpeed ≤ 60 ∧ x.safeSpeed ≤ 100 ∧ (x.target = 0 ∨ x.minSpeed ≤ x.target) ∧ x.target ≤ 100 ∧
      (x.wanted = 0 ∨ x.minSpeed ≤ x.wanted) ∧ x.wanted ≤ 100

/-- The law of commands (R130): every fan's command is 0 or lies between its minimum speed and 100, and a fan in
FAULT has command 0. It rests on the deferred values, which lie between the minimum speed and 100 and are held for no
fan in FAULT (R131, R133, R160), and on what rests in CONFIG: no fan is deferred, every command and wanted speed is 0,
and no purge duration timer runs (R109, R127, R160). -/
def SpeedLaw (s : State) : Prop :=
  (∀ (f : FanId) (x : Fan), s.fans.get f = some x →
    (x.command = 0 ∨ x.minSpeed ≤ x.command) ∧ x.command ≤ 100 ∧
    (x.state = .fault → x.command = 0 ∧ s.supply.deferredFans.get f = none) ∧
    ∀ v, s.supply.deferredFans.get f = some v → x.minSpeed ≤ v ∧ v ≤ 100) ∧
  (s.part = .config →
    (∀ f : FanId, s.supply.deferredFans.get f = none) ∧
    (∀ (f : FanId) (x : Fan), s.fans.get f = some x → x.command = 0 ∧ x.wanted = 0) ∧
    ∀ (z : ZoneId) (x : Zone), s.zones.get z = some x → x.vent.durationTimer = none)

/-- The conditions under which a fan may take a step of its ramp (R130); `deferred` is its entry in the deferred
set. -/
def Fan.due (x : Fan) (deferred : Option Nat) : Prop :=
  (x.state = .stopped ∨ x.state = .running) ∧ x.command ≠ x.wanted ∧ (x.command < x.wanted → deferred = none)

/-- The law of ramps (R130, R131, R160, R164): no fan whose ramp is IDLE fulfils the conditions of a step; a deferred
value lies above its fan's command and at most at its wanted speed; and with no limit active no fan is deferred. -/
def RampLaw (s : State) : Prop :=
  ∀ (f : FanId) (x : Fan), s.fans.get f = some x →
    let deferred := s.supply.deferredFans.get f
    (x.ramp = none → ¬ x.due deferred) ∧ (∀ v, deferred = some v → x.command < v ∧ v ≤ x.wanted) ∧
      (s.limitActive = false → deferred = none)

/-- The law of holds (R66): for every zone and bucket, holds[b] does not exceed the live free[b]. -/
def HoldLaw (s : State) : Prop := ∀ (z : ZoneId) (b : Bucket), s.holdCount z b ≤ s.freeCount z b

/-- The law of closure (R50): no active hold names a zone whose guidance state is CLOSED. -/
def ClosureLaw (s : State) : Prop :=
  ∀ (id : HoldId) (h : Hold) (x : Zone), s.holds.get id = some h → s.zones.get h.zone = some x → x.guidance ≠ .closed

/-- Each hold stands once in the order of creation, and nothing else does (R65, R66). -/
def HoldBooks (s : State) : Prop :=
  s.holdOrder.Nodup ∧ ∀ id : HoldId, id ∈ s.holdOrder ↔ (s.holds.get id).isSome = true

/-- What the part does not do in CONFIG: no arrival waits, no hold is active (R52, R65), no segment is in RUN,
and an exchange is one of a loop test (R167). -/
def ConfigRests (s : State) : Prop :=
  s.part = .config →
    s.holdOrder = [] ∧ (∀ l : LaneId, (s.lanes.get l).queue = []) ∧
      ∀ g : Seg, (s.segments.get g).mode ≠ .run ∧ ∀ x, (s.segments.get g).exchange = some x → x.kind = .test

/-- The law of purge (R120): a zone whose overlay is PURGE has PURGE in its closure cause set, and every group
of the zone is FORCED. In CONFIG no zone is in PURGE and no evaluation timer runs (R109, R110). -/
def PurgeLaw (s : State) : Prop :=
  ∀ (z : ZoneId) (x : Zone), s.zones.get z = some x →
    (s.purged z = true → x.causes.purge = true ∧
      ∀ (g : GroupId) (y : Group), s.groups.get g = some y → y.zone = z → y.state = .forced) ∧
    (s.part = .config → s.purged z = false ∧ x.vent.evalTimer = none)

/-- The law of UNVENTILATED (R49, R126): outside CONFIG the cause stands in a zone's closure cause set exactly when
every fan serving the zone is in FAULT or LOST. -/
def VentilatedLaw (s : State) : Prop :=
  s.part ≠ .config → ∀ (z : ZoneId) (x : Zone), s.zones.get z = some x → x.causes.unventilated = s.unventilated z

/-- The state that the first condition which applies gives a group (R142). -/
def State.lightState (s : State) (x : Group) : GroupState :=
  if s.purged x.zone = true ∨ x.forcedCmd = true then .forced
  else if x.presenceTimer ≠ none then .presence
  else if 0 < x.routeCount then .route
  else .base

/-- The wanted level of a group outside CONFIG (R144). -/
def State.lightLevel (s : State) (x : Group) : Nat :=
  let base := if x.degraded = true then x.presenceLevel else x.baseLevel
  let presence := if x.state = .presence then x.presenceLevel else 0
  let route := if 0 < x.routeCount then x.routeLevel else 0
  if s.part = .stopping ∨ x.state = .forced then 100 else max base (max presence route)

/-- The law of derived groups (R142, R144): outside CONFIG every group's state and wanted level are those its inputs
give; in CONFIG every group stands at BASE with wanted level 0. -/
def GroupLaw (s : State) : Prop :=
  ∀ (g : GroupId) (x : Group), s.groups.get g = some x →
    if s.part = .config then x.state = .base ∧ x.wanted = 0
    else x.state = s.lightState x ∧ x.wanted = s.lightLevel x

/-- The law of commanded levels (R145, R146, R147, R150, R164). A group whose driver is LOST, or that stands at its
wanted level, is STEADY with no fade timer and not deferred; below its wanted level it is RISING and deferred with that
level; above it, it is FADING with its fade timer running and not deferred. With no limit active no group is deferred.
The law stands on what rests in CONFIG, where both levels are 0 and no group is deferred (R137, R160), and on R166: no
two stations have a channel of one group. -/
def LevelLaw (s : State) : Prop :=
  (∀ (i j : StationId) (g : GroupId), (s.stations.get i).binding.bindsGroup g = true →
    (s.stations.get j).binding.bindsGroup g = true → i = j) ∧
  (s.part = .config → ∀ g : GroupId, s.supply.deferredGroups.get g = none) ∧
  ∀ (g : GroupId) (x : Group), s.groups.get g = some x →
    let deferred := s.supply.deferredGroups.get g
    (s.part = .config → x.commanded = 0 ∧ x.wanted = 0) ∧
    (s.limitActive = false → deferred = none) ∧
    if s.driverLost g = true ∨ x.commanded = x.wanted then
      x.movement = .steady ∧ x.fadeTimer = none ∧ deferred = none
    else if x.commanded < x.wanted then x.movement = .rising ∧ x.fadeTimer = none ∧ deferred = some x.wanted
    else x.movement = .fading ∧ x.fadeTimer.isSome = true ∧ deferred = none

/-- The law of wanted content (R76, R78): outside CONFIG every panel's wanted content is what a panel of its kind ought
to show as the state stands; in CONFIG no panel has one. -/
def PanelLaw (s : State) : Prop :=
  ∀ i : PanelId,
    (s.panels.get i).wanted = if s.part = .config then none else s.contentOf (s.panels.get i).kind

/-- The hold's copied list names the group (R141). -/
def State.holdLights (s : State) (g : GroupId) (id : HoldId) : Bool :=
  match s.holds.get id with
  | some h => h.groups.contains g
  | none => false

/-- The law of route counts (R141): a group's route count is the number of active holds whose copied list names
it. The lists name each group once (R75). -/
def RouteLaw (s : State) : Prop :=
  (∀ (i : RouteId) (r : Route), s.routes.get i = some r → r.groups.Nodup) ∧
  (∀ (id : HoldId) (h : Hold), s.holds.get id = some h → h.groups.Nodup) ∧
  ∀ (g : GroupId) (x : Group), s.groups.get g = some x →
    x.routeCount = ((List.finRange 128).filter (s.holdLights g)).length

/-- The rows and their tables (R2, R4, R21, R22): a table is bound to one row at most, a bound row's level is
present, and the slots of a table that no row is bound to are EMPTY. -/
def BindingLaw (s : State) : Prop :=
  (∀ (j k : RowKey) (t : TableId), (s.rows.get j).table = some t → (s.rows.get k).table = some t → j = k) ∧
  (∀ k : RowKey, (s.rows.get k).table.isSome = true → (s.levels.get (Addr.ofRow k 0).level).present = true) ∧
  ∀ t : TableId, (∀ k : RowKey, (s.rows.get k).table ≠ some t) → s.tables.get t = Vector.replicate 64 .empty

/-- The law of the map (R6): every ALIAS slot targets a BAY slot, each BAY slot has at most one alias targeting it,
its alias-in count is 1 exactly while it has one, and no slot address is bound to two inputs. -/
def MapLaw (s : State) : Prop :=
  (∀ a t : Addr, s.stage a = .slot (.aliasTo t) → ∃ b, s.stage t = .slot (.bay b)) ∧
  (∀ a c t : Addr, s.stage a = .slot (.aliasTo t) → s.stage c = .slot (.aliasTo t) → a = c) ∧
  (∀ (t : Addr) (b : Bay), s.stage t = .slot (.bay b) →
    (b.aliasIn = 1 ↔ ∃ a : Addr, s.stage a = .slot (.aliasTo t))) ∧
  ∀ (i j : StationId) (inputs others : Vector (Option Addr) 16) (x y : Fin 16) (a : Addr),
    (s.stations.get i).binding = .bay inputs → inputs.get x = some a →
    (s.stations.get j).binding = .bay others → others.get y = some a → i = j ∧ x = y

/-- The sum of what `f` gives for every bay of the rows below `n` (R24, R37). -/
def State.sumBelow (s : State) (n : Nat) (f : Bay → CountedAs) : Vector CountBlock 24 :=
  ((List.finRange 256).filter fun k => k.val < n).foldl (fun acc k =>
    match (s.rows.get k).table with
    | none => acc
    | some t => (s.tables.get t).toList.foldl (fun acc x =>
        match x with
        | .bay b => addCount acc (f b)
        | _ => acc) acc) (Vector.replicate 24 CountBlock.zero)

/-- The law of the counts (R24, R26): the live counts are the sum of the counted-as of all bays, and with no
recount in flight every counted-as is a fresh evaluation; while SCANNING the same holds of the shadow counts and
the shadow counted-as in the rows already scanned. -/
def CountLaw (s : State) : Prop :=
  s.live = s.sumBelow 256 Bay.counted ∧
  (s.recount = .idle → ∀ (k : RowKey) (t : TableId) (q : Fin 64) (b : Bay), (s.rows.get k).table = some t →
    (s.tables.get t).get q = .bay b → b.counted = s.evalBay (Addr.ofRow k q) b) ∧
  ∀ (c : RowKey) (n : Nat), s.recount = .scanning c n →
    s.shadow = s.sumBelow c.val Bay.shadow ∧
    ∀ (k : RowKey) (t : TableId) (q : Fin 64) (b : Bay), k < c → (s.rows.get k).table = some t →
      (s.tables.get t).get q = .bay b → b.shadow = s.evalBay (Addr.ofRow k q) b

/-- The law of the supply limit (R163): the over-limit flag is set exactly while a limit is active and the
committed load exceeds it, and then every class 3 fan is at 0 and every class 4 group at or below the standby
floor. -/
def SupplyLaw (s : State) : Prop :=
  (s.supply.overLimit = true ↔ s.limitActive = true ∧ s.supply.limit < s.committed) ∧
  (s.supply.overLimit = true →
    (∀ (f : FanId) (x : Fan), s.fans.get f = some x → s.fanClass x = 3 → x.command = 0) ∧
    ∀ (g : GroupId) (x : Group), s.groups.get g = some x → x.priority = 4 → x.commanded ≤ s.supply.floor)

/-- What the law of the supply limit stands on: a fan in STOPPED, STOPPING or FAULT has command 0 (R132, R133);
a fan in the deferred set is in neither FAULT nor LOST (R133, R134); a group whose fade timer runs is above its
wanted level or at it, its driver is not LOST, it is not deferred and the part is not in CONFIG (R147, R150). -/
def PlantLaw (s : State) : Prop :=
  (∀ (f : FanId) (x : Fan), s.fans.get f = some x →
    (x.state = .stopped ∨ x.state = .stopping ∨ x.state = .fault → x.command = 0) ∧
    ((s.supply.deferredFans.get f).isSome = true → x.outOfService = false)) ∧
  ∀ (g : GroupId) (x : Group), s.groups.get g = some x → x.fadeTimer.isSome = true →
    x.wanted ≤ x.commanded ∧ s.driverLost g = false ∧ s.supply.deferredGroups.get g = none ∧ s.part ≠ .config

/-- The law of the pending moves (R187, R189): the part is not in STARTING with the condition of the entry to
RUN fulfilled, nor in STOPPING with the condition of the completion fulfilled. -/
def ReadyLaw (s : State) : Prop :=
  (s.part = .starting → s.runReady = false) ∧ (s.part = .stopping → s.stopReady = false)

/-- The moves between part states that chapter 10 allows (R186 to R190): from CONFIG to STARTING by Start,
from STARTING to RUN, from STARTING and RUN to STOPPING, and from every state to CONFIG. -/
def PartState.mayBecome : PartState → PartState → Bool
  | .config, .starting => true
  | .starting, .run => true
  | .starting, .stopping => true
  | .run, .stopping => true
  | _, .config => true
  | p, q => p == q

/-! ### The rows of the catalogue (10.6) -/

/-- The row that a good frame of a KIND is: the two forms of Stop are rows of their own, and a Stop with
any other payload is no row. -/
def requestRow (kind tag : Byte) (p : List Byte) : Option Instr :=
  match kind.toNat with
  | 0x10 => some (.setCursor tag p)
  | 0x11 => some (.loadSlots tag p)
  | 0x12 => some (.readSlots tag p)
  | 0x13 => some (.probeBay tag p)
  | 0x14 => some (.sweepRow tag p)
  | 0x15 => some (.writeLevel tag p)
  | 0x16 => some (.writeRow tag p)
  | 0x17 => some (.setWindow tag p)
  | 0x20 => some (.defineZone tag p)
  | 0x21 => some (.defineFan tag p)
  | 0x22 => some (.defineGroup tag p)
  | 0x23 => some (.definePanel tag p)
  | 0x24 => some (.defineRoute tag p)
  | 0x25 => some (.defineLane tag p)
  | 0x26 => some (.defineStation tag p)
  | 0x27 => some (.defineSegment tag p)
  | 0x30 => some (.start tag p)
  | 0x31 => if p = [0] then some (.stopHold tag) else if p = [1] then some (.stopSafe tag) else none
  | 0x32 => some (.restart tag p)
  | 0x33 => some (.readStatus tag p)
  | 0x40 => some (.readZone tag p)
  | 0x41 => some (.readFan tag p)
  | 0x42 => some (.readGroup tag p)
  | 0x43 => some (.readLane tag p)
  | 0x44 => some (.listHolds tag p)
  | 0x50 => some (.setProgramme tag p)
  | 0x51 => some (.beginPurge tag p)
  | 0x52 => some (.endPurge tag p)
  | 0x53 => some (.closeZone tag p)
  | 0x54 => some (.openZone tag p)
  | 0x55 => some (.forceGroup tag p)
  | 0x56 => some (.clearFanFault tag p)
  | 0x57 => some (.setSupply tag p)
  | 0x60 => some (.setSegmentMode tag p)
  | 0x61 => some (.beginLoopTest tag p)
  | 0x62 => some (.abortLoopTest tag p)
  | 0x63 => some (.readLoopResult tag p)
  | 0x64 => some (.readSegmentErrors tag p)
  | 0x70 => some (.setNoticeMask tag p)
  | _ => some (.unknownKind kind tag p)

/-- The payload lengths that the request of a KIND accepts (R182, section 10.7; for Define Group, log entry 37). -/
def requestLengthOk (kind : Byte) (p : List Byte) : Bool :=
  let n := p.length
  match kind.toNat with
  | 0x10 => n == 3
  | 0x11 => n % 8 == 0 && 8 ≤ n && n ≤ 192
  | 0x13 => n == 3
  | 0x14 => n == 2
  | 0x15 => n == 4
  | 0x16 => n == 5
  | 0x17 => n == 8
  | 0x20 => n == 1 || n == 49
  | 0x21 => n == 1 || (2 ≤ n && (n == u8 p 1 + 4 || n == u8 p 1 + 7))
  | 0x22 => n == 1 || n == 4 || n == 11
  | 0x23 => n == 13
  | 0x24 => 5 ≤ n && n == u8 p 4 + 5
  | 0x25 => 4 ≤ n && n == u8 p 3 + 4
  | 0x26 => match u8 p 1 with
    | 0 => n == 5
    | 1 => n == 6
    | 2 => n == 53
    | 3 => n == 6
    | 4 => n == 9
    | 5 => n == 21
    | 6 => n == 6
    | _ => 5 ≤ n
  | 0x27 => n == 2
  | 0x30 => n == 0
  | 0x32 => n == 0
  | 0x40 => n == 2
  | 0x50 => n == 3
  | 0x51 => n == 3
  | 0x55 => n == 2
  | 0x57 => n == 6
  | 0x60 => n == 2
  | 0x61 => n == 5 || n == 21
  | 0x70 => n == 2
  | _ => n == 1

/-- The request of a KIND is refused with WRONG_STATE in `s` (R182, the States column of 10.6): the part state is
not among the request's, or its own rule refuses what it asks there (R21, R22, R176). That a level or row out of
range is not judged here is the model's choice: log entry 42. Load Slots' own rule judges each descriptor (R17) and
is left out. -/
def requestBarred (kind : Byte) (p : List Byte) (s : State) : Bool :=
  let stopping := s.part == .stopping
  let configOnly := s.part != .config
  match kind.toNat with
  | 0x11 => stopping
  | 0x15 => stopping || (s.running && u8 p 0 ≤ 7 && (u8 p 1 != 0) != (s.levels.get (toFin 8 (u8 p 0))).present)
  | 0x16 => stopping || (s.running && u8 p 0 ≤ 7 && u8 p 1 ≤ 31 &&
      u8 p 2 != (optByte (s.rows.get (Addr.mk (toFin 8 (u8 p 0)) (toFin 32 (u8 p 1)) 0).rowKey).table).toNat)
  | 0x17 => stopping
  | 0x20 => stopping
  | 0x21 => configOnly
  | 0x22 => configOnly
  | 0x23 => configOnly
  | 0x24 => stopping
  | 0x25 => configOnly
  | 0x26 => configOnly
  | 0x27 => configOnly
  | 0x30 => configOnly
  | 0x31 => s.part == .config
  | 0x50 => stopping
  | 0x51 => !s.running
  | 0x52 => !s.running
  | 0x60 => !s.running
  | 0x61 => stopping || (s.running && u8 p 0 ≤ 1 && (s.segments.get (toFin 2 (u8 p 0))).mode != .quiet)
  | _ => false

/-- Station `i` is the lowest-numbered one with property `p` (R174). -/
def Lowest (p : StationId → Prop) (i : StationId) : Prop := p i ∧ ∀ j, p j → i ≤ j

/-- Station `i` is the first one with property `p` in station-number order after number `n`, wrapping from the
highest number to the lowest (R174, R175). -/
def FirstAfter (p : StationId → Prop) (n : Nat) (i : StationId) : Prop :=
  p i ∧ ∀ j, p j →
    (n < stationNumber i ∧ (n < stationNumber j → i ≤ j)) ∨ (stationNumber i ≤ n ∧ stationNumber j ≤ n ∧ i ≤ j)

/-- The reply `r` stands in the link of `t` as R183 gives: sent at once by a transmitter that was idle in
`s`, waiting behind the frame of one that was sending. -/
def Replied (s t : State) (tag : Byte) (r : Reply) : Prop :=
  match s.link.tx with
  | none => t.link.tx = some (r.frame tag) ∧ t.link.waiting = none
  | some f => t.link.tx = some f ∧ t.link.waiting = some (r.frame tag)

/-- The notice of kind `k` on `subject` with `data` was raised in the event that led from `s` to `t` (R183, R184):
unless its kind is masked, or the event entered CONFIG and so removed it (R190), it is pending in `t` with this data,
or a transmitter that was idle has started its frame. -/
def Told (s t : State) (k : NoticeKind) (subject : Nat) (data : List Byte) : Prop :=
  s.link.mask.getLsbD (k.code - 1) = true → s.part = .config ∨ t.part ≠ .config →
    ⟨k, subject, data⟩ ∈ t.link.notices ∨
      (s.link.tx = none ∧ t.link.tx = some ⟨0x90, 0, byte k.code :: (bytes2 subject ++ data)⟩)

/-! ### The essence of a state

An event's own rule settles some of the state; the units' work at the event's end (heads assigned, ramps
and levels moved, panels derived, frames sent) may change the rest. The essence blanks that rest, so that
two states of one essence agree in all that the work at an event's end leaves alone. -/

/-- The cause UNVENTILATED follows the fans; the rest of a zone stays. -/
def Zone.essence (x : Zone) : Zone := { x with causes := { x.causes with unventilated := false } }

/-- A head's state may change; the queue and what its arrivals carry stay. -/
def Lane.essence (x : Lane) : Lane := { x with queue := x.queue.map fun a => { a with state := .waiting } }

/-- A panel's wanted content and in-flight update may change. -/
def Panel.essence (x : Panel) : Panel := { x with wanted := none, inFlight := none }

/-- A fan's command, ramp and timers may change, and its state between those it works in; FAULT and LOST
stay. -/
def Fan.essence (x : Fan) : Fan :=
  { x with
    state := if x.outOfService then x.state else .stopped, command := 0, startTimer := none
    stopTimer := none, ramp := none }

/-- A group's route count, state, levels and fade may change. -/
def Group.essence (x : Group) : Group :=
  { x with routeCount := 0, state := .base, wanted := 0, commanded := 0, movement := .steady, fadeTimer := none }

/-- The deferred set and the over-limit flag may change. -/
def Supply.essence (x : Supply) : Supply :=
  { x with
    deferredFans := Vector.replicate 32 none, deferredGroups := Vector.replicate 64 none, overLimit := false }

/-- A station's dirty flag and probe-due mark may change. -/
def Station.essence (x : Station) : Station := { x with dirty := false, probeDue := false }

/-- A segment's exchange and schedule positions may change. -/
def Segment.essence (x : Segment) : Segment :=
  { x with exchange := none, pollPos := 0, pollCount := 0, round := none, lastCommanded := 0 }

/-- The transmitter, the reply and the pending notices may change. -/
def Link.essence (x : Link) : Link := { x with tx := none, waiting := none, notices := [] }

/-- The state without the parts that the end of an event may change. -/
def State.essence (s : State) : State :=
  { s with
    zones := s.zones.map (Option.map Zone.essence), lanes := s.lanes.map Lane.essence
    holds := Vector.replicate 128 none, holdOrder := [], panels := s.panels.map Panel.essence
    fans := s.fans.map (Option.map Fan.essence), groups := s.groups.map (Option.map Group.essence)
    supply := s.supply.essence, stations := s.stations.map Station.essence
    segments := s.segments.map Segment.essence, link := s.link.essence }

/-- What the end of an event leaves in `t`, when the event's own rule leaves `x` and cannot complete the
entry to RUN: the essence of `x`; or, where the event completes a Stop SAFE (R189), the essence of the entry
to CONFIG. -/
def Settles (x t : State) : Prop :=
  t.essence = x.essence ∨ (x.part = .stopping ∧ t.essence = (Ev.begin x).enterConfig.s.essence)

/-- As `Settles`, for an event that may also complete the entry to RUN (R187). -/
def SettlesOrStarts (x t : State) : Prop :=
  Settles x t ∨ (x.part = .starting ∧ t.essence = { x.essence with part := .run })

/-! ### What the rules make of one record -/

/-- The history bits of what stands at a slot, cleared (R13). -/
def Stage.swept : Stage → Stage
  | .slot (.bay b) => .slot (.bay { b with visited := false, changed := false })
  | x => x

/-- The fans serving a zone take their targets, and outside STOPPING their wanted speeds with them (R129). -/
def State.retargeted (s : State) (z : ZoneId) : State :=
  { s with fans := s.fans.map fun o => o.map fun x =>
      if x.serves z then
        { x with target := s.fanTarget x, wanted := if s.part = .stopping then x.wanted else s.fanTarget x }
      else x }

/-- Stages 5 and 6 of an evaluation, or the recomputation of R116, for zone `z` with the record `x`. -/
def State.demanded (s : State) (z : ZoneId) (x : Zone) : State :=
  (s.setZone z (some { x with vent := x.vent.stage5 x.profile })).retargeted z

/-- A zone's record once its purge of cause `c` has been entered (R120 steps 1 to 3). -/
def Zone.purging (x : Zone) (c : PurgeCause) (duration now : Nat) : Zone :=
  { x.enterPurge c duration now with causes := { x.causes with purge := true } }

/-- A zone's record once its purge has ended (R125 steps 1 to 3). -/
def Zone.purgeEnded (x : Zone) : Zone :=
  { x with vent := x.vent.endPurge, causes := { x.causes with purge := false } }

/-- A zone's record once a COMMANDED purge has taken the cause GAS (R124). -/
def Zone.turnedToGas (x : Zone) (now : Nat) : Zone :=
  { x with vent := { (x.vent.startPurgeTimer .gas x.profile.minPurge 0 now) with overlay := .purge .gas } }

/-- Steps 1 and 2 of the overlay step (R118). -/
def Zone.overlaid (x : Zone) (now : Nat) : Zone :=
  if x.air.alarm then
    match x.vent.overlay with
    | .purge .gas => x
    | .purge .commanded => x.turnedToGas now
    | _ => x.purging .gas 0 now
  else if x.vent.overlay = .purge .gas ∧ x.vent.runOut = true ∧ x.air.clear = true then x.purgeEnded
  else x

/-- A zone's record after stages 1 to 3 of an evaluation at `now`, its timer started again (R102, R110, R111,
R113). -/
def Zone.sampled (x : Zone) (sensed : Bool) (valid co no2 now : Nat) : Zone :=
  let y := (x.airStep sensed valid co no2).demands sensed
  { y with vent := { y.vent with evalTimer := some (now + y.profile.period * 1000) } }

/-- A zone's record after stages 1 to 4 of an evaluation at `now` (R102, R110, R111, R113, R118, R119). -/
def Zone.evaluated (x : Zone) (sensed : Bool) (valid co no2 now : Nat) : Zone :=
  let w := (x.sampled sensed valid co no2 now).overlaid now
  if sensed then { w with vent := w.vent.blindTest valid } else w

/-- The kind code and the bindings of a Define Station payload that spells a binding (R165, section 10.7). -/
def Binding.spelled : Binding → Byte × List Byte
  | .none => (0, [])
  | .gas z => (1, [byte z.val])
  | .bay inputs => (2, inputs.toList.flatMap fun o => match o with
      | some a => a.bytes
      | Option.none => [255, 255, 255])
  | .lane l => (3, [byte l.val])
  | .fan channels => (4, channels.toList.map optByte)
  | .light channels motion => (5, (channels.toList ++ motion.toList).map optByte)
  | .sign p => (6, [byte p.val])

/-- The LIGHT entry of these channels and motion inputs names the group. -/
def LightNames (channels motion : Vector (Option GroupId) 8) (g : GroupId) : Prop :=
  some g ∈ channels.toList ∨ some g ∈ motion.toList

/-- No CONFLICT keeps entry `i` from a binding (R166), for each kind in turn. -/
def State.mayBind (s : State) (i : StationId) (b : Binding) : Prop :=
  let other (j : StationId) (c : Binding) : Prop := j ≠ i ∧ (s.stations.get j).binding = c
  match b with
  | .none => True
  | .gas z => ((List.finRange 96).filter fun j => j ≠ i ∧ (s.stations.get j).binding = .gas z).length < 6
  | .bay inputs =>
    (∀ x y a, inputs.get x = some a → inputs.get y = some a → x = y) ∧
      ∀ j others, other j (.bay others) → ∀ x y a, inputs.get x = some a → others.get y ≠ some a
  | .lane l => ∀ j, ¬ other j (.lane l)
  | .fan channels =>
    (∀ x y f, channels.get x = some f → channels.get y = some f → x = y) ∧
      ∀ j others, other j (.fan others) → ∀ x y f, channels.get x = some f → others.get y ≠ some f
  | .light channels motion =>
    (∀ j c m, other j (.light c m) → ∀ g, LightNames channels motion g → ¬ LightNames c m g) ∧
      ∀ g, some g ∈ motion.toList → some g ∈ channels.toList ∧ motion.toList.count (some g) ≤ 4
  | .sign p => ∀ j, ¬ other j (.sign p)

/-- The payload of a Define Panel: the panel, the kind, the fields before the pairs, and the pairs. -/
def panelPayload (i : PanelId) (kind lane mask : Byte) (pairs : List (Byte × Byte)) : List Byte :=
  [byte i.val, kind, lane, mask, byte pairs.length] ++ pairs.flatMap fun x => [x.1, x.2]

end Sys2Proof.Machine
end

