-- ==== Sys2Proof/WellFormed.lean ====
section
/-!
DEFINITION. The commands that the outside world can send: what a frame of either line can carry. A
command that is not well formed names no event of the part.
-/

namespace Sys2Proof

/-- The request codes of the catalogue, spec/10 section 10.6. -/
def requestCodes : List Nat :=
  [0x10, 0x11, 0x12, 0x13, 0x14, 0x15, 0x16, 0x17] ++
  [0x20, 0x21, 0x22, 0x23, 0x24, 0x25, 0x26, 0x27] ++
  [0x30, 0x31, 0x32, 0x33, 0x40, 0x41, 0x42, 0x43, 0x44] ++
  [0x50, 0x51, 0x52, 0x53, 0x54, 0x55, 0x56, 0x57] ++
  [0x60, 0x61, 0x62, 0x63, 0x64, 0x70]

/-- A link payload holds 0-248 bytes (spec/10 section 10.7). -/
def linkPayloadOk (payload : List Byte) : Bool := payload.length ≤ 248

/-- A field frame holds 3 leading bytes, at most 64 payload bytes and 2 check bytes (section 10.7);
at least one byte of a reply that begins has arrived. -/
def receivedOk (received : List Byte) : Bool := 1 ≤ received.length && received.length ≤ 69

/-- The command names an event that can reach the part. -/
def Instr.wellFormed : Instr → Bool
  | .powerReset _ _ => true
  | .linkByte _ _ => true
  | .gap => true
  | .unknownKind kind _ p => linkPayloadOk p && !requestCodes.contains kind.toNat
  | .frameTransmitEnd => true
  | .setCursor _ p => linkPayloadOk p
  | .loadSlots _ p => linkPayloadOk p
  | .readSlots _ p => linkPayloadOk p
  | .probeBay _ p => linkPayloadOk p
  | .sweepRow _ p => linkPayloadOk p
  | .writeLevel _ p => linkPayloadOk p
  | .writeRow _ p => linkPayloadOk p
  | .setWindow _ p => linkPayloadOk p
  | .defineZone _ p => linkPayloadOk p
  | .defineFan _ p => linkPayloadOk p
  | .defineGroup _ p => linkPayloadOk p
  | .definePanel _ p => linkPayloadOk p
  | .defineRoute _ p => linkPayloadOk p
  | .defineLane _ p => linkPayloadOk p
  | .defineStation _ p => linkPayloadOk p
  | .defineSegment _ p => linkPayloadOk p
  | .start _ p => linkPayloadOk p
  | .stopHold _ => true
  | .stopSafe _ => true
  | .restart _ p => linkPayloadOk p
  | .readStatus _ p => linkPayloadOk p
  | .readZone _ p => linkPayloadOk p
  | .readFan _ p => linkPayloadOk p
  | .readGroup _ p => linkPayloadOk p
  | .readLane _ p => linkPayloadOk p
  | .listHolds _ p => linkPayloadOk p
  | .setProgramme _ p => linkPayloadOk p
  | .beginPurge _ p => linkPayloadOk p
  | .endPurge _ p => linkPayloadOk p
  | .closeZone _ p => linkPayloadOk p
  | .openZone _ p => linkPayloadOk p
  | .forceGroup _ p => linkPayloadOk p
  | .clearFanFault _ p => linkPayloadOk p
  | .setSupply _ p => linkPayloadOk p
  | .setSegmentMode _ p => linkPayloadOk p
  | .beginLoopTest _ p => linkPayloadOk p
  | .abortLoopTest _ p => linkPayloadOk p
  | .readLoopResult _ p => linkPayloadOk p
  | .readSegmentErrors _ p => linkPayloadOk p
  | .setNoticeMask _ p => linkPayloadOk p
  | .recountRowStep => true
  | .fieldFrameSent _ => true
  | .fieldGoodReply _ p => p.length ≤ 64
  | .fieldLineError _ _ received => receivedOk received
  | .fieldByteGap _ received => receivedOk received && received.length ≤ 68
  | .fieldTimeout _ => true
  | .stalenessExpiry _ => true
  | .probeTimerExpiry _ => true
  | .bayDisagree _ => true
  | .expired _ => true
  | .holdOffExpiry _ => true
  | .zoneEvaluation _ => true
  | .minPurgeExpiry _ => true
  | .purgeDurationExpiry _ => true
  | .rampTimerExpiry _ => true
  | .startTimerExpiry _ => true
  | .stopTimerExpiry _ => true
  | .presenceTimerExpiry _ => true
  | .fadeTimerExpiry _ => true

end Sys2Proof
end

