-- ==== Sys2Proof/Certificates/Slice0/Obligations.lean ====
section
/-!
DEFINITION. The statements for the provers. Each is about the whole machine or one of its operations, and
cites the rules of spec/ it formalises. A command's operands are written as the payload bytes of spec/10
section 10.7. A statement about a request supposes that no request is in hand; with one in hand every request
is discarded (LinkDiscards). A statement about an expiry supposes that the timer runs, and brings the model's clock up
to its instant: the model's choice, log entry 3.
-/

open Sys2Proof Sys2Proof.Machine

/-! ### Steps, reset and the laws at reset -/

/-- A step takes the command at the front of the queue and is `exec` of it with the queue's rest. On an empty queue the
clock alone advances: the model's choice, log entry 2. -/
def Obligations.StepTakesTheFront : Prop :=
  (∀ (c : Instr) (rest : List Instr) (s : State),
    step { s with pending := c :: rest } = exec c { s with pending := rest }) ∧
  ∀ s : State, s.pending = [] → step s = .next { s with now := s.now + Config.tickMs }

/-- Every command has a next state, in every state, and leaves the queue to the step. -/
def Obligations.EveryCommandGoesOn : Prop :=
  ∀ (c : Instr) (s : State), ∃ t, exec c s = .next t ∧ t.pending = s.pending

/-- POWER_RESET (R190): power-reset values throughout, with the bit rate of the straps. Three things are the model's
choice and no rule's: the queue and the counter of free bytes stay (log entry 8); the lane, station, schedule and
register values for which the spec gives no reset value are those of State.reset (log entry 9); the model's clock
starts again at 0 (log entry 3). -/
def Obligations.PowerResetValues : Prop :=
  ∀ (a b : Bool) (s : State),
    exec (.powerReset a b) s = .next
      { State.reset with
        draws := s.draws, pending := s.pending
        link :=
          { receiver := .hunt, flags := ⟨false, false, false, false, false⟩, gapTimer := none, tx := none
            waiting := none, notices := [], mask := BitVec.allOnes 12
            rate := if a then .r230400 else if b then .r115200 else .r57600 } }

/-- Right after a power reset the laws hold that the other statements keep: of the pending notices (R184), the arrival
queues (R52), holds (R66), closure (R50), the hold table's books (R65), what rests in CONFIG (R52, R65, R167), the
averages (R101), demand (R114), fan targets and commands (R129, R130), purge (R120), route counts (R141), row bindings
(R22), the map (R6), counts (R24), the supply limit with what it stands on (R163), pending moves (R187, R189), and
UNVENTILATED and derived groups (R126, R142), ramps (R130), commanded levels (R145 to R147) and wanted content (R78). -/
def Obligations.LawsHoldAtReset : Prop :=
  NoticeLaw State.reset ∧ QueueLaw State.reset ∧ HoldLaw State.reset ∧ ClosureLaw State.reset ∧
    HoldBooks State.reset ∧ ConfigRests State.reset ∧ AirLaw State.reset ∧ DemandLaw State.reset ∧ FanLaw State.reset ∧
    PurgeLaw State.reset ∧ RouteLaw State.reset ∧ BindingLaw State.reset ∧ CountLaw State.reset ∧
    SupplyLaw State.reset ∧ PlantLaw State.reset ∧ ReadyLaw State.reset ∧ VentilatedLaw State.reset ∧
    GroupLaw State.reset ∧ SpeedLaw State.reset ∧ MapLaw State.reset ∧ RampLaw State.reset ∧ LevelLaw State.reset ∧
    PanelLaw State.reset

/-! ### The Supervisor Link -/

/-- LINK_BYTE with a correct stop bit (R180, R181): each state of the receiver and the byte that leaves it. That the 10
ms of GAP run from every byte that leaves the receiver in a frame is the model's reading: log entry 36. The CRC-16 that
it compares: polynomial 0x1021, initial value 0xFFFF, each byte most significant bit first, no final inversion, the
high byte first. -/
def Obligations.ReceiverTakesBytes : Prop :=
  (crc16 [] = 0xFFFF ∧
    (∀ (bs : List Byte) (b : Byte), crc16 (bs ++ [b]) = (List.range 8).foldl
      (fun (c : BitVec 16) _ => if c.msb = true then (c <<< 1) ^^^ 0x1021 else c <<< 1) (crc16 bs ^^^ (b.zeroExtend 16 <<< 8))) ∧
    ∀ bs : List Byte, crcBytes bs = [(crc16 bs).extractLsb' 8 8, (crc16 bs).extractLsb' 0 8]) ∧
  ∀ (b : Byte) (s : State),
    let into (r : Receiver) : State :=
      { s with link := { s.link with receiver := r, gapTimer := if r = .hunt then none else some (s.now + 10) } }
    (s.link.receiver = .hunt → exec (.linkByte b true) s = .next (if b = 0xA5 then into .length else s)) ∧
    (s.link.receiver = .length → 2 ≤ b.toNat → b.toNat ≤ 250 →
      exec (.linkByte b true) s = .next (into (.body b.toNat []))) ∧
    (s.link.receiver = .length → (b.toNat < 2 ∨ 250 < b.toNat) →
      exec (.linkByte b true) s = .next { s with link :=
        { s.link with receiver := .hunt, gapTimer := none, flags := { s.link.flags with length := true } } }) ∧
    (∀ (n : Nat) (bytes : List Byte), s.link.receiver = .body n bytes →
      exec (.linkByte b true) s = .next
        (into (if bytes.length + 1 < n then .body n (bytes ++ [b]) else .check n (bytes ++ [b]) none))) ∧
    (∀ (n : Nat) (bytes : List Byte), s.link.receiver = .check n bytes none →
      exec (.linkByte b true) s = .next (into (.check n bytes (some b)))) ∧
    (∀ (n : Nat) (bytes : List Byte) (high : Byte), s.link.receiver = .check n bytes (some high) →
      crcBytes (byte n :: bytes) ≠ [high, b] →
      exec (.linkByte b true) s = .next { s with link :=
        { s.link with receiver := .hunt, gapTimer := none, flags := { s.link.flags with checkError := true } } })

/-- What the link discards (R181): a byte with a stop-bit error sets FRAMING, a gap inside a frame sets GAP, and any
request that completes with a request in hand sets OVERRUN; nothing else changes. That the 10 ms of GAP end with a
discarded frame is the model's reading: log entry 36. That a request's row is the event in which its good frame
completes, the receiver left as it is, is the model's choice: log entry 1. A GAP that no frame is open for changes
nothing: the model's choice, log entry 4. -/
def Obligations.LinkDiscards : Prop :=
  (∀ (b : Byte) (s : State),
    exec (.linkByte b false) s = .next { s with link :=
      { s.link with receiver := .hunt, gapTimer := none, flags := { s.link.flags with framing := true } } }) ∧
  (∀ (s : State) (d : Nat), s.link.gapTimer = some d →
    exec .gap s = .next { s with
      now := max s.now d
      link := { s.link with receiver := .hunt, gapTimer := none, flags := { s.link.flags with gap := true } } }) ∧
  (∀ s : State, s.link.gapTimer = none → exec .gap s = .next s) ∧
  ∀ (kind tag : Byte) (p : List Byte) (row : Instr) (s : State),
    requestRow kind tag p = some row → s.link.waiting.isSome = true →
    exec row s = .next { s with link := { s.link with flags := { s.link.flags with overrun := true } } }

/-- A frame received byte by byte is its row (R180, R182): the last check byte of a good frame has the effect of the
row of its KIND, TAG and PAYLOAD. That a row is the event in which its good frame completes is the model's choice, log
entry 1; that the receiver has returned to HUNT before the request is judged is its reading, log entry 36. -/
def Obligations.GoodFrameIsItsRow : Prop :=
  ∀ (b high kind tag : Byte) (n : Nat) (p : List Byte) (row : Instr) (s : State),
    s.link.receiver = .check n (kind :: tag :: p) (some high) →
    crcBytes (byte n :: kind :: tag :: p) = [high, b] → requestRow kind tag p = some row →
    exec (.linkByte b true) s =
      exec row { s with link := { s.link with receiver := .hunt, gapTimer := none } }

/-- The transmitter (R182, R183): the reply to a request is sent at once when the transmitter is idle, and else waits;
at the end of a frame the waiting reply is sent, or else the oldest pending notice, with KIND 0x90 and TAG 0. A
FRAME_TRANSMIT_END of an idle transmitter changes nothing: the model's choice, log entry 4. And the pending notice set
(R184): a raise of a masked kind does nothing; one whose key is pending replaces its data in place; another is new, the
new notices of an event standing in order of kind code and subject; and at the event's end these join the end of the
set, after which an idle transmitter starts a frame (log entry 7). The codes of the notice kinds (R184) and of the
reasons (R182, section 10.7), in the order of their tables. -/
def Obligations.TransmitterOrder : Prop :=
  [NoticeKind.zoneAlarm, .zoneState, .stationState, .fanFault, .lampFault, .laneOverflow, .bayDisagree, .supplyOver,
    .recountDone, .testDone, .started, .stopped].map NoticeKind.code = [1, 2, 3, 4, 5, 6, 7, 8, 9, 10, 11, 12] ∧
  [Reason.unknownKind, .badLength, .wrongState, .range, .noObject, .conflict, .busy, .cursorEnd].map Reason.code =
    [1, 2, 3, 4, 5, 6, 7, 8] ∧
  (∀ (s : State) (tag : Byte) (r : Reply), (s.answered tag r).link =
    match s.link.tx with
    | none => { s.link with tx := some (r.frame tag), waiting := none }
    | some _ => { s.link with waiting := some (r.frame tag) }) ∧
  (∀ (s : State) (f r : Frame), s.link.tx = some f → s.link.waiting = some r →
    exec .frameTransmitEnd s = .next { s with link := { s.link with tx := some r, waiting := none } }) ∧
  (∀ (s : State) (f : Frame) (n : Notice) (rest : List Notice), s.link.tx = some f → s.link.waiting = none →
    s.link.notices = n :: rest →
    exec .frameTransmitEnd s = .next { s with link := { s.link with
      tx := some ⟨0x90, 0, byte n.kind.code :: (bytes2 n.subject ++ n.data)⟩, notices := rest } }) ∧
  (∀ (s : State) (f : Frame), s.link.tx = some f → s.link.waiting = none → s.link.notices = [] →
    exec .frameTransmitEnd s = .next { s with link := { s.link with tx := none } }) ∧
  (∀ s : State, s.link.tx = none → exec .frameTransmitEnd s = .next s) ∧
  (∀ (tag : Byte) (data : List Byte) (reason : Reason) (field value : Nat),
    (Reply.done data).frame tag = ⟨0x80, tag, data⟩ ∧ Reply.accepted.frame tag = ⟨0x81, tag, []⟩ ∧
    (Reply.reject ⟨reason, field, value⟩).frame tag =
      ⟨0x82, tag, byte reason.code :: byte field :: bytes2 value⟩) ∧
  (∀ (e : Ev) (k : NoticeKind) (subject : Nat) (data : List Byte),
    let n : Notice := ⟨k, subject, data⟩
    let enabled := e.s.link.mask.getLsbD (k.code - 1)
    let before (a b : Notice) : Prop := a.kind.code < b.kind.code ∨ (a.kind = b.kind ∧ a.subject < b.subject)
    (enabled = false → e.raise k subject data = e) ∧
    (enabled = true → (∃ m ∈ e.s.link.notices, m.kind = k ∧ m.subject = subject) →
      e.raise k subject data = { e with s := { e.s with link := { e.s.link with
        notices := e.s.link.notices.map fun m => if m.kind = k ∧ m.subject = subject then n else m } } }) ∧
    (enabled = true → (∀ m ∈ e.s.link.notices, ¬ (m.kind = k ∧ m.subject = subject)) → e.fresh.Pairwise before →
      let r := e.raise k subject data
      r = { e with fresh := r.fresh } ∧ r.fresh.Pairwise before ∧
        ∀ m, m ∈ r.fresh ↔ m = n ∨ (m ∈ e.fresh ∧ ¬ (m.kind = k ∧ m.subject = subject)))) ∧
  ∀ e : Ev,
    let l : Link := { e.s.link with notices := e.s.link.notices ++ e.fresh }
    e.close.link = match l.tx, l.waiting, l.notices with
      | some _, _, _ => l
      | none, some r, _ => { l with tx := some r, waiting := none }
      | none, none, n :: rest =>
        { l with tx := some ⟨0x90, 0, byte n.kind.code :: (bytes2 n.subject ++ n.data)⟩, notices := rest }
      | none, none, [] => l

/-- A refused request changes nothing but the link (R182): whatever the request, when its own rule refuses it the part
answers REJECT and does no more. Load Slots, the rule's one exception, is left to its own statement but for its length
and the part state. A KIND that is no request code is refused with UNKNOWN_KIND. Of the request codes each is refused
with BAD_LENGTH by the payload lengths of 10.7 (Define Group's by log entry 37), else with WRONG_STATE by the part
states of 10.6 and the own rules of Write Level, Write Row and Begin Loop Test (R21, R23, R176; that a level or row out
of range is not judged there is the model's choice, log entry 42), and else for neither reason. The checks of a request
are judged in order: the first that fails gives the refusal, and with none the request is accepted. -/
def Obligations.RefusedRequestChangesNothing : Prop :=
  (∀ (kind tag : Byte) (p : List Byte) (row : Instr) (r : Rejection) (s : State),
    s.link.waiting = none → requestRow kind tag p = some row →
    kind ≠ 0x11 ∨ requestLengthOk kind p = false ∨ requestBarred kind p s = true →
    (requestOf kind p (Ev.begin s)).1 = .reject r →
    exec row s = .next (s.answered tag (.reject r))) ∧
  (∀ (kind tag : Byte) (p : List Byte) (s : State), s.link.waiting = none → kind.toNat ∉ requestCodes →
    exec (.unknownKind kind tag p) s = .next (s.answered tag (.reject ⟨.unknownKind, 0, kind.toNat⟩))) ∧
  (∀ (kind : Byte) (p : List Byte) (s : State), kind.toNat ∈ requestCodes →
    let reply := (requestOf kind p (Ev.begin s)).1
    (requestLengthOk kind p = false → reply = .reject ⟨.badLength, 0, p.length⟩) ∧
    (requestLengthOk kind p = true → requestBarred kind p s = true → reply = .reject ⟨.wrongState, 0, s.part.code⟩) ∧
    (requestLengthOk kind p = true → requestBarred kind p s = false → ∀ r, reply = .reject r →
      r.reason ≠ .unknownKind ∧ r.reason ≠ .badLength ∧ (kind ≠ 0x11 → r.reason ≠ .wrongState))) ∧
  ∀ (checks : List (Bool × Rejection)) (e : Ev) (accept : Reply × Ev),
    ((∀ c ∈ checks, c.1 = false) → judged checks e accept = accept) ∧
    ∀ before r after, checks = before ++ (true, r) :: after → (∀ c ∈ before, c.1 = false) →
      judged checks e accept = (.reject r, e)

/-- The law of the pending notice set (R184) is kept by every step. -/
def Obligations.StepKeepsNoticeLaw : Prop :=
  ∀ s t : State, NoticeLaw s → step s = .next t → NoticeLaw t

/-- Set Notice Mask and Read Status (R185), the report of Read Status byte by byte in the layout of section 10.7. The
cursor and restart count of an IDLE recount are free bytes of the report: log entry 6. -/
def Obligations.NoticeMaskAndStatus : Prop :=
  (∀ (tag : Byte) (m : BitVec 12) (s : State), s.link.waiting = none →
    exec (.setNoticeMask tag (bytes2 m.toNat)) s = .next
      ((s.setLink { s.link with
        mask := m, notices := s.link.notices.filter fun n => m.getLsbD (n.kind.code - 1) }).answered tag (.done []))) ∧
  (∀ (tag : Byte) (clear : Bool) (s : State), s.link.waiting = none →
    exec (.readStatus tag [flagByte clear]) s = .next
      (({ s with
          draws := s.draws + 1
          link := if clear then { s.link with flags := ⟨false, false, false, false, false⟩ } else s.link } :
        State).answered tag (.done (statusBytes s)))) ∧
  ∀ s : State,
    let one (b : Bool) (w : Nat) : Nat := if b then w else 0
    let f := s.link.flags
    let segment (g : Seg) : List Byte :=
      [match (s.segments.get g).mode with
        | .run => 0
        | .quiet => 1
        | .disabled => 2, flagByte (s.segments.get g).testRunning]
    statusBytes s =
      [match s.part with
        | .config => 0
        | .starting => 1
        | .run => 2
        | .stopping => 3,
       byte (one f.framing 1 + one f.length 2 + one f.gap 4 + one f.checkError 8 + one f.overrun 16)] ++
      bytes2 s.link.notices.length ++ bytes2 s.link.mask.toNat ++
      (match s.recount with
        | .idle => [0, s.freeByte 0, s.freeByte 1, s.freeByte 2]
        | .scanning k n => [1, byte (Addr.ofRow k 0).level.val, byte (Addr.ofRow k 0).row.val, byte n]) ++
      segment 0 ++ segment 1 ++
      [if s.supply.mode = .standby then 1 else 0] ++ bytes2 s.supply.limit ++ bytes3 s.committed ++
      bytes3 (BitVec.ofInt 24 ((s.supply.limit : Int) - s.committed)).toNat ++
      [flagByte s.supply.overLimit,
       byte (((List.finRange 32).filter fun f => (s.supply.deferredFans.get f).isSome).length +
        ((List.finRange 64).filter fun g => (s.supply.deferredGroups.get g).isSome).length)]

/-! ### The Bay Map -/

/-- Set Cursor and Read Slots (R15, R20): the slots read are those from the cursor in address order, and the cursor
stands after them, at end behind 7.31.63. The slot descriptors of Read Slots and the cursor's bytes stand in the layout
of section 10.7. -/
def Obligations.CursorAndSlots : Prop :=
  (∀ (tag : Byte) (a : Addr) (s : State), s.link.waiting = none →
    exec (.setCursor tag a.bytes) s = .next (({ s with cursor := some a } : State).answered tag (.done []))) ∧
  (cursorBytes none = [255, 255, 255] ∧
    ∀ a : Addr, cursorBytes (some a) = [byte a.level.val, byte a.row.val, byte a.pos.val]) ∧
  (stageBytes .noLevel = 128 :: List.replicate 7 0 ∧ stageBytes .noRow = 128 :: List.replicate 7 0 ∧
    stageBytes (.slot .empty) = List.replicate 8 0 ∧
    (∀ t : Addr, stageBytes (.slot (.aliasTo t)) =
      [2, byte t.level.val, byte t.row.val, byte t.pos.val, 0, 0, 0, 0]) ∧
    ∀ b : Bay, stageBytes (.slot (.bay b)) =
      [1, byte b.zone.val, byte (b.bl.val + (if b.strict then 4 else 0) + if b.closed then 8 else 0),
       match b.group with
        | none => 255
        | some g => byte g.val,
       match b.occ with
        | .free => 0
        | .occupied => 1
        | .unknown => 2,
       byte ((if b.disagree then 1 else 0) + 2 * b.aliasIn.val), 0, 0]) ∧
  ∀ (tag : Byte) (n : Nat) (a : Addr) (s : State), s.link.waiting = none → 1 ≤ n → n ≤ 24 → s.cursor = some a →
    let count := min n (16384 - a.linear)
    let after := if a.linear + n < 16384 then some (Addr.ofLinear (a.linear + n)) else none
    exec (.readSlots tag [byte n]) s = .next
      (({ s with cursor := after } : State).answered tag (.done (byte count :: (cursorBytes after ++
        (List.range count).flatMap fun j => stageBytes (s.stage (Addr.ofLinear (a.linear + j)))))))

/-- Probe Bay (R14) reports the walk (R7), the effective level and the closure (R8, R9) and changes nothing but the
link: each byte of its report in the layout of section 10.7. A walk reads the level, the row and the slot of its
address (R7); it follows one alias at most, and the closure and the level are those of the bay's own address. -/
def Obligations.ProbeReportsTheWalk : Prop :=
  (∀ (s : State) (a : Addr), s.stage a =
    if (s.levels.get a.level).present = true then
      match (s.rows.get a.rowKey).table with
      | none => .noRow
      | some t => .slot ((s.tables.get t).get a.pos)
    else .noLevel) ∧
  (∀ (tag : Byte) (a : Addr) (s : State), s.link.waiting = none →
    exec (.probeBay tag a.bytes) s = .next (s.answered tag (.done (probeReport s a)))) ∧
  (∀ (s : State) (a own : Addr) (b : Bay) (followed : Option Addr), s.walk a = ⟨.bay own b, followed⟩ →
    let w (i : Fin 2) : Window := s.windows.get i
    let closing (i : Fin 2) : Bool := (w i).hits own && (w i).action == .close
    probeReport s a =
      [3, flagByte followed.isSome] ++
      (match followed with
        | some t => t.bytes
        | none => [255, 255, 255]) ++
      [byte (s.effectiveLevel own b).val, flagByte b.strict,
       byte (bitIf (s.isClosed own b) 1 + bitIf (s.levels.get own.level).closed 2 +
        bitIf (s.rows.get own.rowKey).closed 4 + bitIf b.closed 8 + bitIf (closing 0) 16 + bitIf (closing 1) 32),
       byte (bitIf ((w 0).hits own) 1 + bitIf ((w 1).hits own) 2),
       byte b.zone.val, byte b.occ.code, byte b.counted.zone.val, byte b.counted.bucket.val,
       flagByte b.counted.isOpen, byte b.counted.state.code] ++
      match s.recount with
      | .idle => [0, 255]
      | .scanning cursor _ => [1, flagByte (own.rowKey < cursor)]) ∧
  (∀ (s : State) (a : Addr) (stop : WalkEnd) (code : Byte) (followed : Option Addr), s.walk a = ⟨stop, followed⟩ →
    (stop = .noLevel ∧ code = 0) ∨ (stop = .noRow ∧ code = 1) ∨ (stop = .empty ∧ code = 2) →
    probeReport s a =
      [code, flagByte followed.isSome] ++
      (match followed with
        | some t => t.bytes
        | none => [255, 255, 255]) ++
      List.replicate 10 255 ++ [flagByte (s.recount != .idle), 255]) ∧
  (∀ (s : State) (a : Addr) (b : Bay), s.stage a = .slot (.bay b) → s.walk a = ⟨.bay a b, none⟩) ∧
  (∀ (s : State) (a t : Addr) (b : Bay), s.stage a = .slot (.aliasTo t) → s.stage t = .slot (.bay b) →
    s.walk a = ⟨.bay t b, some t⟩) ∧
  (∀ (s : State) (a : Addr), s.stage a = .slot .empty → s.walk a = ⟨.empty, none⟩) ∧
  (∀ (s : State) (a : Addr), (s.levels.get a.level).present = false → s.walk a = ⟨.noLevel, none⟩) ∧
  (∀ (s : State) (a : Addr), (s.levels.get a.level).present = true → (s.rows.get a.rowKey).table = none →
    s.walk a = ⟨.noRow, none⟩) ∧
  (∀ (s : State) (a : Addr) (b : Bay), s.isClosed a b = true ↔
    (s.levels.get a.level).closed = true ∨ (s.rows.get a.rowKey).closed = true ∨ b.closed = true ∨
      ∃ i : Fin 2, (s.windows.get i).hits a = true ∧ (s.windows.get i).action = .close) ∧
  (∀ (s : State) (a : Addr) (b : Bay) (l : AccessLevel), l ≤ s.effectiveLevel a b ↔
    l ≤ (s.levels.get a.level).rl ∧ l ≤ (s.rows.get a.rowKey).rl ∧ l ≤ b.bl ∧
      ∀ i : Fin 2, (s.windows.get i).hits a = true → (s.windows.get i).action = .level → l ≤ (s.windows.get i).level) ∧
  ∀ (w : Window) (a : Addr), w.hits a = true ↔
    w.enabled = true ∧ ∀ i : Nat, i < 14 → w.mask.getLsbD i = false → a.linear.testBit i = w.base.getLsbD i

/-- Sweep Row (R13): it reports the history bits of the row as they stood and clears them, the row's and the level's
too. Nothing else changes, and no table but the row's. A slot's byte is visited 1 + changed 2, 0 for no BAY (section
10.7). -/
def Obligations.SweepRowReportsAndClears : Prop :=
  ((∀ b : Bay, historyByte (.slot (.bay b)) = byte ((if b.visited then 1 else 0) + if b.changed then 2 else 0)) ∧
    ∀ x : Stage, (∀ b, x ≠ .slot (.bay b)) → historyByte x = 0) ∧
  ∀ (tag : Byte) (l : LevelId) (r : Fin 32) (s : State), s.link.waiting = none →
    let at' (q : Fin 64) : Addr := ⟨l, r, q⟩
    let k := (at' 0).rowKey
    ∃ s' : State,
      exec (.sweepRow tag [byte l.val, byte r.val]) s = .next (s'.answered tag (.done
        ((List.finRange 64).map (fun q => historyByte (s.stage (at' q))) ++
          [flagByte (s.rows.get k).visited, flagByte (s.levels.get l).visited]))) ∧
      s' = { s with rows := s'.rows, levels := s'.levels, tables := s'.tables } ∧
      s'.rows = put s.rows k { s.rows.get k with visited := false } ∧
      s'.levels = put s.levels l { s.levels.get l with visited := false } ∧
      (∀ q : Fin 64, s'.stage (at' q) = (s.stage (at' q)).swept) ∧
      ∀ t : TableId, (s.rows.get k).table ≠ some t → s'.tables.get t = s.tables.get t

/-- Write Level and Set Window (R11, R21, R25): the fields are written, and a recount starts or restarts, for a level
only where closed or RL changed, for a window always. -/
def Obligations.LevelAndWindowWritten : Prop :=
  (∀ (tag : Byte) (l : LevelId) (present closed : Byte) (rl : AccessLevel) (s : State), s.link.waiting = none →
    s.part ≠ .stopping → (s.running = true → (present != 0) = (s.levels.get l).present) →
    ((present != 0) = false → s.levelBound l = false) →
    let old := s.levels.get l
    let s1 : State := { s with levels := put s.levels l ⟨present != 0, closed != 0, rl, old.visited⟩ }
    exec (.writeLevel tag [byte l.val, present, closed, byte rl.val]) s = .next
      ((if (closed != 0) = old.closed ∧ rl = old.rl then s1 else s1.triggerRecount).answered tag (.done []))) ∧
  (∀ (tag : Byte) (i : Fin 2) (enabled : Byte) (base mask : BitVec 14) (levelAction : Bool) (lv : AccessLevel)
      (s : State), s.link.waiting = none → s.part ≠ .stopping →
    let w : Window := ⟨enabled != 0, base, mask, if levelAction then .level else .close, lv⟩
    exec (.setWindow tag ([byte i.val, enabled] ++ bytes2 base.toNat ++ bytes2 mask.toNat ++
        [flagByte levelAction, byte lv.val])) s = .next
      ((({ s with windows := put s.windows i w } : State).triggerRecount).answered tag (.done []))) ∧
  ∀ s : State,
    s.triggerRecount.shadow = Vector.replicate 24 ⟨0, 0, 0, 0, Vector.replicate 8 0⟩ ∧
    (s.recount = .idle → s.triggerRecount.recount = .scanning 0 0) ∧
    (∀ c n, s.recount = .scanning c n → s.triggerRecount.recount = .scanning 0 (min 255 (n + 1))) ∧
    s.triggerRecount = { s with shadow := s.triggerRecount.shadow, recount := s.triggerRecount.recount }

/-- Write Row (R22, R23): the binding, closed and RL fields are written, the visited bit is kept, and a recount starts
where closed or RL changed; a table that the row gives up has its slots emptied first. A row whose table has a bound
input or the target of an alias does not give it up: that an input counts as bound only where its entry is enabled is
the model's reading of R165 ("A binding of an entry that is not enabled holds its place in the table but gives the
bound object nothing: the bays have no input from it"), log entry 10. That a closed byte above 1 is taken as yes, and
is no field out of range, is the model's choice: log entry 51. -/
def Obligations.RowWritten : Prop :=
  (∀ (s : State) (k : RowKey), s.tableEngaged k = true ↔ ∃ q : Fin 64,
    (∃ (i : StationId) (inputs : Vector (Option Addr) 16), (s.stations.get i).enabled = true ∧
      (s.stations.get i).binding = .bay inputs ∧ some (Addr.ofRow k q) ∈ inputs.toList) ∨
    ∃ b : Bay, s.stage (Addr.ofRow k q) = .slot (.bay b) ∧ b.aliasIn = 1) ∧
  (∀ (tag : Byte) (l : LevelId) (r : Fin 32) (table : Option TableId) (closed : Byte) (rl : AccessLevel) (s : State),
    let k := (Addr.mk l r 0).rowKey
    let old := s.rows.get k
    s.link.waiting = none → s.part ≠ .stopping → (s.running = true → table = old.table) →
    (table ≠ none → table ≠ old.table → (s.levels.get l).present = true) →
    (∀ t, table = some t → ∀ j : RowKey, j ≠ k → (s.rows.get j).table ≠ some t) →
    (old.table ≠ none → table ≠ old.table → s.tableEngaged k = false) →
    let s1 := if old.table ≠ none ∧ table ≠ old.table then s.clearRow k else s
    let s2 : State := { s1 with rows := put s1.rows k ⟨table, closed != 0, rl, old.visited⟩ }
    exec (.writeRow tag [byte l.val, byte r.val, optByte table, closed, byte rl.val]) s = .next
      ((if (closed != 0) = old.closed ∧ rl = old.rl then s2 else s2.triggerRecount).answered tag (.done []))) ∧
  ∀ (s : State) (k : RowKey) (t : TableId), (s.rows.get k).table = some t →
    (s.levels.get (Addr.ofRow k 0).level).present = true →
    (s.clearRow k).tables.get t = Vector.replicate 64 .empty ∧ (s.clearRow k).rows = s.rows ∧
      (s.clearRow k).levels = s.levels ∧ (s.clearRow k).cursor = s.cursor

/-- Load Slots in CONFIG (R16 to R18), one descriptor of each type on a slot of each type, in the order BAY, ALIAS,
EMPTY of the descriptor and, under each, the slot's: the slot, the bays an alias leaves and comes to target, the counts
of R24 and the cursor. A BAY descriptor on a bay keeps its dynamic and map fields; an EMPTY one on an EMPTY slot, and
an ALIAS one with the present target, change nothing but the cursor. The checks of R17 in their order, in CONFIG and
(R19) in STARTING and RUN: what each refuses, with the reason and value of R16, and that a descriptor none of them
refuses passes. A descriptor that is refused ends the loading; the one before it stays applied, and a first one that is
refused leaves the map as it was. That the EMPTY descriptor's bytes 1 to 3 are ignored, and that BL above 3 is a byte 2
above 15, is the model's reading: log entry 11. The shadow counted-as of a new bay is the model's choice: log entry 38.
That an address counts as bound only where an entry that is enabled binds it, for the new bay's primary input, an
alias's secondary input and the acceptances, is the model's reading of R165 ("A binding of an entry that is not enabled
holds its place in the table but gives the bound object nothing: the bays have no input from it"): log entry 10. -/
def Obligations.LoadSlotsInConfig : Prop :=
  (∀ (s : State) (a : Addr), s.boundInput a = true ↔ ∃ (i : StationId) (inputs : Vector (Option Addr) 16),
    (s.stations.get i).enabled = true ∧ (s.stations.get i).binding = .bay inputs ∧ some a ∈ inputs.toList) ∧
  (∀ (z : ZoneId) (bl : AccessLevel) (strict closed bound : Bool) (g : Option GroupId),
    let b := newBay z bl strict closed g bound
    b = { zone := z, bl := bl, strict := strict, closed := closed, group := g
          primary := if bound then some .unknown else none, secondary := none, occ := .unknown, disagree := false
          disagreeTimer := none, aliasIn := 0, visited := false, changed := false
          counted := b.counted, shadow := b.shadow }) ∧
  (∀ (s : State) (a : Addr) (x y : Slot), BindingLaw s → s.stage a = .slot y →
    s.setSlot a x = { s with tables := (s.setSlot a x).tables } ∧ (s.setSlot a x).stage a = .slot x ∧
      ∀ c, c ≠ a → (s.setSlot a x).stage c = s.stage c) ∧
  (∀ (tag : Byte) (a : Addr) (z : ZoneId) (bl : AccessLevel) (strict closed : Bool) (g : Option GroupId)
      (free : List Byte) (s : State), s.link.waiting = none → s.part = .config → s.cursor = some a →
    s.stage a = .slot .empty → free.length = 4 →
    let b := newBay z bl strict closed g (s.boundInput a)
    let k := s.evalBay a b
    let s1 := s.setSlot a (.bay { b with counted := k, shadow := k })
    exec (.loadSlots tag ([1, byte z.val, byte (bl.val + bitIf strict 4 + bitIf closed 8), optByte g] ++ free)) s = .next
      (({ s1 with
          live := addCount s.live k
          shadow := if s.rowScanned a.rowKey then addCount s.shadow k else s.shadow
          cursor := a.next } : State).answered tag (.done (1 :: cursorBytes a.next)))) ∧
  (∀ (tag : Byte) (a : Addr) (b : Bay) (z : ZoneId) (bl : AccessLevel) (strict closed : Bool) (g : Option GroupId)
      (free : List Byte) (s : State), s.link.waiting = none → s.part = .config → s.cursor = some a →
    s.stage a = .slot (.bay b) → free.length = 4 →
    let c : Bay := { b with zone := z, bl := bl, strict := strict, closed := closed, group := g }
    let k := s.evalBay a c
    let s1 := s.setSlot a (.bay { c with counted := k, shadow := if s.rowScanned a.rowKey then k else b.shadow })
    exec (.loadSlots tag ([1, byte z.val, byte (bl.val + bitIf strict 4 + bitIf closed 8), optByte g] ++ free)) s = .next
      (({ s1 with
          live := addCount (subCount s.live b.counted) k
          shadow := if s.rowScanned a.rowKey then addCount (subCount s.shadow b.shadow) k else s.shadow
          cursor := a.next } : State).answered tag (.done (1 :: cursorBytes a.next)))) ∧
  (∀ (tag : Byte) (a t : Addr) (old : Bay) (z : ZoneId) (bl : AccessLevel) (strict closed : Bool) (g : Option GroupId)
      (free : List Byte) (s : State), s.link.waiting = none → s.part = .config → s.cursor = some a →
    s.stage a = .slot (.aliasTo t) → s.stage t = .slot (.bay old) → s.boundInput a = false → free.length = 4 →
    let b := newBay z bl strict closed g false
    let k := s.evalBay a b
    let s1 := (s.setSlot a (.bay { b with counted := k, shadow := k })).setSlot t
      (.bay { old with aliasIn := 0, secondary := none })
    exec (.loadSlots tag ([1, byte z.val, byte (bl.val + bitIf strict 4 + bitIf closed 8), optByte g] ++ free)) s = .next
      (({ s1 with
          live := addCount s.live k
          shadow := if s.rowScanned a.rowKey then addCount s.shadow k else s.shadow
          cursor := a.next } : State).answered tag (.done (1 :: cursorBytes a.next)))) ∧
  (∀ (tag : Byte) (a t : Addr) (b : Bay) (free : List Byte) (s : State), s.link.waiting = none → s.part = .config →
    s.cursor = some a → s.stage a = .slot .empty → s.stage t = .slot (.bay b) → b.aliasIn = 0 → free.length = 4 →
    let s1 := (s.setSlot a (.aliasTo t)).setSlot t
      (.bay { b with aliasIn := 1, secondary := if s.boundInput a then some .unknown else none })
    exec (.loadSlots tag ([2] ++ t.bytes ++ free)) s = .next
      (({ s1 with cursor := a.next } : State).answered tag (.done (1 :: cursorBytes a.next)))) ∧
  (∀ (tag : Byte) (a t : Addr) (old b : Bay) (free : List Byte) (s : State), BindingLaw s → s.link.waiting = none →
    s.part = .config → s.cursor = some a → s.stage a = .slot (.bay old) → old.aliasIn = 0 → s.boundInput a = false →
    t ≠ a → s.stage t = .slot (.bay b) → b.aliasIn = 0 → free.length = 4 →
    let s1 := (s.setSlot a (.aliasTo t)).setSlot t (.bay { b with aliasIn := 1, secondary := none })
    exec (.loadSlots tag ([2] ++ t.bytes ++ free)) s = .next
      (({ s1 with
          live := subCount s.live old.counted
          shadow := if s.rowScanned a.rowKey then subCount s.shadow old.shadow else s.shadow
          cursor := a.next } : State).answered tag (.done (1 :: cursorBytes a.next)))) ∧
  (∀ (tag : Byte) (a t : Addr) (b : Bay) (free : List Byte) (s : State), s.link.waiting = none → s.part = .config →
    s.cursor = some a → s.stage a = .slot (.aliasTo t) → s.stage t = .slot (.bay b) → free.length = 4 →
    exec (.loadSlots tag ([2] ++ t.bytes ++ free)) s = .next
      (({ s with cursor := a.next } : State).answered tag (.done (1 :: cursorBytes a.next)))) ∧
  (∀ (tag : Byte) (a t u : Addr) (old b : Bay) (free : List Byte) (s : State), s.link.waiting = none →
    s.part = .config → s.cursor = some a → s.stage a = .slot (.aliasTo t) → s.boundInput a = false → u ≠ t →
    s.stage t = .slot (.bay old) → s.stage u = .slot (.bay b) → b.aliasIn = 0 → free.length = 4 →
    let s1 := ((s.setSlot a (.aliasTo u)).setSlot t (.bay { old with aliasIn := 0, secondary := none })).setSlot u
      (.bay { b with aliasIn := 1, secondary := none })
    exec (.loadSlots tag ([2] ++ u.bytes ++ free)) s = .next
      (({ s1 with cursor := a.next } : State).answered tag (.done (1 :: cursorBytes a.next)))) ∧
  (∀ (tag : Byte) (a : Addr) (free : List Byte) (s : State), s.link.waiting = none → s.part = .config →
    s.cursor = some a → s.stage a = .slot .empty → free.length = 7 →
    exec (.loadSlots tag (0 :: free)) s = .next
      (({ s with cursor := a.next } : State).answered tag (.done (1 :: cursorBytes a.next)))) ∧
  (∀ (tag : Byte) (a t : Addr) (b : Bay) (free : List Byte) (s : State), s.link.waiting = none → s.part = .config →
    s.cursor = some a → s.stage a = .slot (.aliasTo t) → s.stage t = .slot (.bay b) → s.boundInput a = false →
    free.length = 7 →
    let s1 := (s.setSlot a .empty).setSlot t (.bay { b with aliasIn := 0, secondary := none })
    exec (.loadSlots tag (0 :: free)) s = .next
      (({ s1 with cursor := a.next } : State).answered tag (.done (1 :: cursorBytes a.next)))) ∧
  (∀ (tag : Byte) (a : Addr) (b : Bay) (free : List Byte) (s : State), s.link.waiting = none → s.part = .config →
    s.cursor = some a → s.stage a = .slot (.bay b) → b.aliasIn = 0 → s.boundInput a = false → free.length = 7 →
    exec (.loadSlots tag (0 :: free)) s = .next
      (({ s.setSlot a .empty with
          live := subCount s.live b.counted
          shadow := if s.rowScanned a.rowKey then subCount s.shadow b.shadow else s.shadow
          cursor := a.next } : State).answered tag (.done (1 :: cursorBytes a.next)))) ∧
  (∀ (d : List Byte) (index : Nat) (s : State), d.length = 8 → s.part ≠ .stopping →
    let type := u8 d 0
    let names (t : Addr) : Prop := type = 2 ∧ (d.drop 1).take 3 = t.bytes
    let fields : List (Nat × Bool) := (type, decide (2 < type)) :: match type with
      | 1 => [(u8 d 1, decide (23 < u8 d 1)), (u8 d 2, decide (15 < u8 d 2)),
              (u8 d 3, decide (63 < u8 d 3 ∧ u8 d 3 ≠ 255))]
      | 2 => [(u8 d 1, decide (7 < u8 d 1)), (u8 d 2, decide (31 < u8 d 2)), (u8 d 3, decide (63 < u8 d 3))]
      | _ => []
    let outOfRange : Option Nat := (fields.find? Prod.snd).map Prod.fst
    let otherShape (a : Addr) : Prop := s.running = true ∧ match s.stage a with
      | .slot (.bay _) => type ≠ 1
      | .slot (.aliasTo t) => ¬ names t
      | _ => type ≠ 0
    let unbound (a : Addr) : Prop := (s.levels.get a.level).present = false ∨ (s.rows.get a.rowKey).table = none
    let conflict (a : Addr) : Prop := s.part = .config ∧
      ((∃ b, s.stage a = .slot (.bay b) ∧ (b.aliasIn = 1 ∨ s.boundInput a = true) ∧ type ≠ 1) ∨
       (∃ t, s.stage a = .slot (.aliasTo t) ∧ s.boundInput a = true ∧ ¬ names t) ∨
       ∃ t, names t ∧ ((∀ b, s.stage t ≠ .slot (.bay b)) ∨ t = a ∨
         ∃ b, s.stage t = .slot (.bay b) ∧ b.aliasIn = 1 ∧ s.stage a ≠ .slot (.aliasTo t)))
    let refusal := firstFail (descriptorChecks s d index)
    ((∃ a, s.cursor = some a ∧ otherShape a) → refusal = some ⟨.wrongState, index, type⟩) ∧
    ((∀ a, s.cursor = some a → ¬ otherShape a) →
      (∀ v, outOfRange = some v → refusal = some ⟨.range, index, v⟩) ∧
      (outOfRange = none →
        (s.cursor = none → refusal = some ⟨.cursorEnd, index, type⟩) ∧
        ∀ a, s.cursor = some a →
          (unbound a → refusal = some ⟨.noObject, index, a.row.val⟩) ∧
          (¬ unbound a → conflict a → refusal = some ⟨.conflict, index, type⟩) ∧
          (¬ unbound a → ¬ conflict a → refusal = none)))) ∧
  (∀ (tag : Byte) (d more : List Byte) (r : Rejection) (s : State), s.link.waiting = none → s.part ≠ .stopping →
    d.length = 8 → more.length % 8 = 0 → more.length ≤ 184 → firstFail (descriptorChecks s d 0) = some r →
    exec (.loadSlots tag (d ++ more)) s = .next (s.answered tag (.reject r))) ∧
  (∀ (tag : Byte) (z : ZoneId) (level : Byte) (free : List Byte) (s : State), s.link.waiting = none →
    s.part = .config → 15 < level.toNat → free.length = 5 →
    exec (.loadSlots tag ([1, byte z.val, level] ++ free)) s = .next
      (s.answered tag (.reject ⟨.range, 0, level.toNat⟩))) ∧
  ∀ (tag : Byte) (a : Addr) (d1 d2 : List Byte) (r : Rejection) (s : State), s.link.waiting = none →
    s.part = .config → s.cursor = some a → d1.length = 8 → d2.length = 8 →
    firstFail (descriptorChecks s d1 0) = none →
    let s1 : State := { s.applyDescriptor a d1 with cursor := a.next }
    firstFail (descriptorChecks s1 d2 1) = some r →
    exec (.loadSlots tag (d1 ++ d2)) s = .next (s1.answered tag (.reject r))

/-- Load Slots in STARTING and RUN (R19, R43): a BAY descriptor on a bay rewrites its configured fields, and the bay's
counted-as and the counts move with them; the cursor advances. An EMPTY descriptor on an EMPTY slot, its other bytes
ignored (log entry 11), and an ALIAS one with the present target change nothing but the cursor. -/
def Obligations.LoadSlotsRewritesBay : Prop :=
  (∀ (tag : Byte) (a : Addr) (b : Bay) (z : ZoneId) (bl : AccessLevel) (strict closed : Bool) (g : Option GroupId)
    (free : List Byte) (s : State), s.link.waiting = none → s.running = true → s.cursor = some a →
    s.stage a = .slot (.bay b) → free.length = 4 →
    let c : Bay := { b with zone := z, bl := bl, strict := strict, closed := closed, group := g }
    let k := s.evalBay a c
    let s1 := s.setSlot a (.bay { c with
      counted := k, shadow := if s.rowScanned a.rowKey then k else b.shadow })
    ∃ t, exec (.loadSlots tag ([1, byte z.val, byte (bl.val + bitIf strict 4 + bitIf closed 8), optByte g] ++ free)) s =
        .next t ∧
      Settles { s1 with
        live := addCount (subCount s.live b.counted) k
        shadow := if s.rowScanned a.rowKey then addCount (subCount s.shadow b.shadow) k else s.shadow
        cursor := a.next } t ∧
      Replied s t tag (.done (1 :: cursorBytes a.next))) ∧
  ∀ (tag : Byte) (a : Addr) (d : List Byte) (s : State), s.link.waiting = none → s.running = true →
    s.cursor = some a → d.length = 8 →
    (u8 d 0 = 0 ∧ s.stage a = .slot .empty) ∨
      (∃ t, u8 d 0 = 2 ∧ (d.drop 1).take 3 = t.bytes ∧ s.stage a = .slot (.aliasTo t)) →
    exec (.loadSlots tag d) s = .next
      (({ s with cursor := a.next } : State).answered tag (.done (1 :: cursorBytes a.next)))

/-- A bay's fresh evaluation and what one counted-as adds to its block (R24, R37); and the law of the counts (R24),
which every step keeps on the law of the row bindings (R2, R21, R22), which every step keeps too: the live counts are
the sum of the counted-as of all bays, and with no recount in flight every counted-as is a fresh evaluation. On the law
of the row bindings every step also keeps the law of the map (R6): every ALIAS slot targets a BAY slot, each BAY slot
has at most one alias, its alias-in count 1 exactly then, and no address is bound to two inputs. -/
def Obligations.CountedAsAndCounts : Prop :=
  (∀ (s : State) (a : Addr) (b : Bay), s.evalBay a b =
    ⟨b.zone, bucketOf (s.effectiveLevel a b) b.strict, !s.isClosed a b, b.occ⟩) ∧
  (∀ (l : AccessLevel) (strict : Bool), (bucketOf l strict).val = 2 * l.val + (if strict then 1 else 0)) ∧
  (∀ (c : CountBlock) (k : CountedAs),
    (c.add k).total = c.total + 1 ∧
    (c.add k).opened = c.opened + (if k.isOpen then 1 else 0) ∧
    (c.add k).occupied = c.occupied + (if k.state = .occupied then 1 else 0) ∧
    (c.add k).unknown = c.unknown + (if k.state = .unknown then 1 else 0) ∧
    ∀ b : Bucket, (c.add k).free.get b =
      c.free.get b + (if k.isOpen = true ∧ k.state = .free ∧ k.bucket = b then 1 else 0)) ∧
  (∀ (c : CountBlock) (k : CountedAs), (c.add k).sub k = c) ∧
  (∀ (s : State) (a : Addr) (b : Bay), s.stage a = .slot (.bay b) →
    let k := s.evalBay a b
    (s.recountBay a).stage a =
      .slot (.bay { b with counted := k, shadow := if s.rowScanned a.rowKey then k else b.shadow }) ∧
    (s.recountBay a).live = addCount (subCount s.live b.counted) k ∧
    (s.recountBay a).shadow =
      if s.rowScanned a.rowKey then addCount (subCount s.shadow b.shadow) k else s.shadow) ∧
  (∀ (v : Vector CountBlock 24) (k : CountedAs) (z : ZoneId),
    (addCount v k).get z = (if z = k.zone then (v.get z).add k else v.get z) ∧
    (subCount v k).get z = if z = k.zone then (v.get z).sub k else v.get z) ∧
  ∀ s t : State, BindingLaw s → step s = .next t →
    BindingLaw t ∧ (CountLaw s → CountLaw t) ∧ (MapLaw s → MapLaw t)

/-- RECOUNT_ROW_STEP (R26, R27): while SCANNING the row is evaluated into the shadow counts and the cursor moves on;
the step on 7.31 completes the recount, after which it is IDLE, no lane's head is WAITING, and RECOUNT_DONE has been
raised with the restart count. While IDLE it changes nothing but closes an event: the model's choice, log entry 4. -/
def Obligations.RecountScansAndCompletes : Prop :=
  (∀ s : State, s.recount = .idle → exec .recountRowStep s = .next s.closed) ∧
  (∀ (s : State) (k : RowKey) (n : Nat), s.recount = .scanning k n → k.val < 255 →
    exec .recountRowStep s = .next (({ s.scanRow k with recount := .scanning (k + 1) n } : State).closed)) ∧
  (∀ (s : State) (n : Nat), s.recount = .scanning 255 n →
    ∃ t, exec .recountRowStep s = .next t ∧ SettlesOrStarts (s.scanRow 255).adoptShadow t ∧ t.recount = .idle ∧
      (∀ l : LaneId, (t.lanes.get l).headWaiting = false) ∧ Told s t .recountDone 0 [byte n]) ∧
  ∀ (s : State) (a : Addr) (b : Bay), s.stage a = .slot (.bay b) →
    (s.scanSlot a).stage a = .slot (.bay { b with shadow := s.evalBay a b }) ∧
    (s.scanSlot a).shadow = addCount s.shadow (s.evalBay a b) ∧ (s.scanSlot a).live = s.live

/-! ### Occupancy -/

/-- A bay's occupancy from its inputs, the disagree timer and its expiry (R33, R34, R35). How BAY_DISAGREE codes the
two input states in its two data bytes is the model's reading: log entry 32. That a timer which has expired counts as
stopped, so that the next write which finds the condition still fulfilled starts it again, is the model's choice: log
entry 52. -/
def Obligations.OccupancyAndDisagreement : Prop :=
  (∀ p q : Option Occ,
    ((p = some .occupied ∨ q = some .occupied) → occupancyOf p q = .occupied) ∧
    (p ≠ some .occupied → q ≠ some .occupied → (p = some .free ∨ q = some .free) → occupancyOf p q = .free) ∧
    (p ≠ some .occupied → q ≠ some .occupied → p ≠ some .free → q ≠ some .free → occupancyOf p q = .unknown)) ∧
  (∀ b : Bay, b.disagrees = true ↔
    (b.primary = some .free ∧ b.secondary = some .occupied) ∨ (b.primary = some .occupied ∧ b.secondary = some .free)) ∧
  (∀ (b : Bay) (now : Nat), b.disagrees = true →
    b.testDisagree now = { b with disagreeTimer :=
      match b.disagreeTimer with
      | none => some (now + 60000)
      | some d => some d }) ∧
  (∀ (b : Bay) (now : Nat), b.disagrees = false →
    b.testDisagree now = { b with disagreeTimer := none, disagree := false }) ∧
  ∀ (a : Addr) (b : Bay) (d : Nat) (s : State), s.stage a = .slot (.bay b) → b.disagreeTimer = some d →
    let s1 : State := { s with now := max s.now d }
    exec (.bayDisagree a) s = .next
      (((Ev.begin (s1.setSlot a (.bay { b with disagreeTimer := none, disagree := true }))).raise .bayDisagree a.linear
        [byte (inputCode b.primary), byte (inputCode b.secondary)]).close)

/-- A change of occupancy (R12, R38 to R42): the bay's occupancy and history, its counted-as and the counts, a movement
event for its zone and a presence event for its group. Its hand-over to the Guidance Unit (R39, R69, R71): a bay that
became OCCUPIED counted open releases the oldest hold of its zone and bucket; where the free count fell, the hold trim
then keeps the oldest holds, as many as are free, and releases the newest; no other list changes; and the NO_SPACE
heads are to be retried where a net free count rose, judged for this change alone: the model's reading, log entry
16. -/
def Obligations.OccupancyChange : Prop :=
  (∀ (e : Ev) (a : Addr) (b : Bay) (v : Occ), e.s.stage a = .slot (.bay b) →
    let marked := e.s.markHistory a v
    let counted := marked.recountBay a
    let moved := counted.updZone b.zone fun x => { x with vent := { x.vent with e := min 255 (x.vent.e + 1) } }
    let present := match b.group with
      | none => moved
      | some g => moved.updGroup g fun y => { y with presenceTimer := some (e.s.now + y.presenceHold * 1000) }
    (e.changeOcc a v).s.essence = present.essence ∧
    marked.stage a =
      .slot (.bay { b with occ := v, changed := true, visited := b.visited || decide (v = .occupied) }) ∧
    (v = .occupied → (marked.rows.get a.rowKey).visited = true ∧ (marked.levels.get a.level).visited = true) ∧
    (v ≠ .occupied → marked.rows = e.s.rows ∧ marked.levels = e.s.levels) ∧
    let k : CountedAs := ⟨b.zone, bucketOf (e.s.effectiveLevel a b) b.strict, !e.s.isClosed a b, v⟩
    let handed := (e.mapS fun _ => counted).handover e.s b.counted k (v == .occupied)
    (e.changeOcc a v).s.holds = handed.s.holds ∧ (e.changeOcc a v).s.holdOrder = handed.s.holdOrder ∧
      (e.changeOcc a v).retry = handed.retry) ∧
  (∀ (e : Ev) (before : State) (old new : CountedAs) (fulfil : Bool), HoldBooks e.s →
    let t := (e.handover before old new fulfil).s
    (∀ (z : ZoneId) (c : Bucket),
      let l := e.s.holdList z c
      let kept := if fulfil = true ∧ new.isOpen = true ∧ z = new.zone ∧ c = new.bucket then l.tail else l
      t.holdList z c =
        if z = old.zone ∧ c = old.bucket ∧ e.s.freeCount z c < before.freeCount z c
        then kept.take (e.s.freeCount z c) else kept) ∧
    t.live = e.s.live ∧
    (before.netFree old.zone old.bucket < t.netFree old.zone old.bucket ∨
      before.netFree new.zone new.bucket < t.netFree new.zone new.bucket →
      (e.handover before old new fulfil).retry = true)) ∧
  ∀ (e : Ev) (z : ZoneId) (c : Bucket), HoldBooks e.s →
    let t := (e.trim z c).s
    t.holdList z c = (e.s.holdList z c).take (e.s.freeCount z c) ∧ t.live = e.s.live ∧
    (∀ (y : ZoneId) (d : Bucket), (y, d) ≠ (z, c) → t.holdList y d = e.s.holdList y d) ∧
    ∀ id : HoldId, t.holds.get id =
      if id ∈ (e.s.holdList z c).drop (e.s.freeCount z c) then none else e.s.holds.get id

/-! ### Guidance -/

/-- Close Zone, Open Zone and EXPIRED (R48, R50, R68, R70): COMMANDED is added to the cause set or removed, and nothing
else of the zone changes by the request; a zone that enters CLOSED keeps no hold. A hold that expires leaves the table
and its list; where no head waits for a place, its entry stays free. A release, whatever its cause, empties the table
entry, takes the hold out of its list and lowers the route count of each group of its copied list, and changes nothing
else; a head it belongs to is to be assigned again. A ZONE_STATE notice with the new guidance state and the cause set
is raised in every event in which a zone's guidance state changes, but for those of an entry to CONFIG (R50); the
guidance state is CLOSED while the cause set is not empty, and else follows the advisory flag (R47). An expiry of an
entry that holds nothing changes nothing: the model's choice, log entry 4. -/
def Obligations.ZonesClosedAndHoldsExpired : Prop :=
  (∀ x : Zone,
    let c := x.causes
    x.guidance = (if c.commanded || c.purge || c.unventilated then .closed
      else if x.air.advisory then .advisory else .opened) ∧
    c.toByte = byte ((if c.commanded then 1 else 0) + (if c.purge then 2 else 0) + if c.unventilated then 4 else 0)) ∧
  (∀ (tag : Byte) (z : ZoneId) (x : Zone) (s : State), s.link.waiting = none → s.zones.get z = some x →
    ∃ t, exec (.closeZone tag [byte z.val]) s = .next t ∧
      Settles (s.setZone z (some { x with causes := { x.causes with commanded := true } })) t ∧
      Replied s t tag (.done []) ∧
      (∀ y, t.zones.get z = some y → y.guidance ≠ x.guidance →
        Told s t .zoneState z.val [byte y.guidance.code, y.causes.toByte]) ∧
      (x.guidance ≠ .closed → HoldBooks s → ∀ (id : HoldId) (h : Hold), t.holds.get id = some h → h.zone ≠ z)) ∧
  (∀ (tag : Byte) (z : ZoneId) (x : Zone) (s : State), s.link.waiting = none → s.zones.get z = some x →
    ∃ t, exec (.openZone tag [byte z.val]) s = .next t ∧
      Settles (s.setZone z (some { x with causes := { x.causes with commanded := false } })) t ∧
      Replied s t tag (.done []) ∧
      ∀ y, t.zones.get z = some y → y.guidance ≠ x.guidance →
        Told s t .zoneState z.val [byte y.guidance.code, y.causes.toByte]) ∧
  (∀ (c : Instr) (z : ZoneId) (x y : Zone) (s t : State), exec c s = .next t → t.part ≠ .config →
    s.zones.get z = some x → t.zones.get z = some y → y.guidance ≠ x.guidance →
    Told s t .zoneState z.val [byte y.guidance.code, y.causes.toByte]) ∧
  (∀ (id : HoldId) (h : Hold) (s : State), s.holds.get id = some h →
    ∃ t, exec (.expired id) s = .next t ∧ Settles { s with now := max s.now h.expiry } t ∧
      ((∀ l : LaneId, (s.lanes.get l).headNoSpace = false ∧ (s.lanes.get l).headHolds id = false) →
        t.holds.get id = none ∧ id ∉ t.holdOrder)) ∧
  (∀ (id : HoldId) (s : State), s.holds.get id = none → exec (.expired id) s = .next s.closed) ∧
  ∀ (e : Ev) (id : HoldId),
    (e.s.holds.get id = none → e.release id = e) ∧
    ∀ h : Hold, e.s.holds.get id = some h →
      (e.release id).s = { e.s with
        holds := put e.s.holds id none, holdOrder := e.s.holdOrder.filter (· != id)
        groups := Vector.ofFn fun g : GroupId => (e.s.groups.get g).map fun x =>
          { x with routeCount := x.routeCount - h.groups.count g } } ∧
      ∀ l : LaneId, (e.s.lanes.get l).headHolds id = true → l ∈ (e.release id).assign

/-- Define Lane and Define Route (R51, R75): the lane's record is replaced with an empty queue; the route of a key is
rewritten, placed in the lowest free entry or removed. A removal of a key that is not in the table changes nothing, and
its entry number is a free byte: log entry 6; that it still retries the lane's NO_SPACE head is the model's choice: log
entry 45. A new key while all 64 entries are held is refused with CONFLICT; that the REJECT names the lane is the
model's choice: log entry 53. -/
def Obligations.LaneAndRouteDefined : Prop :=
  (∀ (tag : Byte) (l : LaneId) (dir : Direction) (lc : AccessLevel) (zs : List ZoneId) (s : State),
    s.link.waiting = none → s.part = .config → (dir = .exit → 1 ≤ zs.length ∧ zs.length ≤ 4) →
    (dir ≠ .exit → zs = []) → zs.Nodup → (∀ z ∈ zs, (s.zones.get z).isSome = true) →
    exec (.defineLane tag ([byte l.val, byte dir.code, byte lc.val, byte zs.length] ++
        zs.map fun z : ZoneId => byte z.val)) s = .next
      ((s.setLane l (if dir = .none then Lane.reset else ⟨dir, lc, zs, []⟩)).answered tag (.done []))) ∧
  (∀ (tag : Byte) (l : LaneId) (z : ZoneId) (rank : Nat) (removal : Byte) (gs : List GroupId) (i : RouteId)
      (s : State), s.link.waiting = none → s.part ≠ .stopping → rank ≤ 15 → gs.length ≤ 8 → gs.Nodup →
    (s.lanes.get l).direction = .entry → (s.zones.get z).isSome = true →
    (∀ g ∈ gs, (s.groups.get g).isSome = true) →
    (match s.routeFor l z with
      | some x => some x.1
      | none => if removal = 0 then s.freeRoute else none) = some i →
    let s1 : State := { s with
      routes := put s.routes i (if removal = 0 then some ⟨l, z, rank, gs⟩ else none), draws := s.draws + 1 }
    ∃ t, exec (.defineRoute tag ([byte l.val, byte z.val, byte rank, removal, byte gs.length] ++
        gs.map fun g : GroupId => byte g.val)) s = .next t ∧
      Settles s1 t ∧ Replied s t tag (.done [byte i.val]) ∧
      (s.running = false ∨ (s.lanes.get l).headNoSpace = false → t = s1.answered tag (.done [byte i.val]))) ∧
  ∀ (tag : Byte) (l : LaneId) (z : ZoneId) (rank : Nat) (removal : Byte) (gs : List GroupId) (s : State),
    s.link.waiting = none → s.part ≠ .stopping → rank ≤ 15 → gs.length ≤ 8 → gs.Nodup →
    (s.lanes.get l).direction = .entry → (s.zones.get z).isSome = true →
    (∀ g ∈ gs, (s.groups.get g).isSome = true) → s.routeFor l z = none →
    let request : Instr := .defineRoute tag ([byte l.val, byte z.val, byte rank, removal, byte gs.length] ++
      gs.map fun g : GroupId => byte g.val)
    (removal ≠ 0 → ∃ t, exec request s = .next t ∧
      Settles { s with draws := s.draws + 1 } t ∧ Replied s t tag (.done [s.freeByte 0])) ∧
    (removal = 0 → (∀ i : RouteId, (s.routes.get i).isSome = true) →
      exec request s = .next (s.answered tag (.reject ⟨.conflict, 0, l.val⟩)))

/-- R60, whole: an arrival's effective level, and the permitted buckets of each level in order of preference. -/
def Obligations.PermittedBuckets : Prop :=
  permitted 0 = [1, 0, 2, 4, 6] ∧ permitted 1 = [3, 2, 4, 6] ∧ permitted 2 = [5, 4, 6] ∧ permitted 3 = [7, 6] ∧
  (∀ e : AccessLevel, permitted e = bucketOf e true ::
    ((List.finRange 4).filter fun l => e ≤ l).map fun l => bucketOf l false) ∧
  ∀ (e : Ev) (l : LaneId) (vl : AccessLevel), (e.s.lanes.get l).direction = .entry →
    (e.s.lanes.get l).queue.length < 4 →
    ((e.laneEvent l 1 vl).s.lanes.get l).queue =
      (e.s.lanes.get l).queue ++ [⟨vl, max vl (e.s.lanes.get l).lc, .waiting⟩]

/-- The assignment of a head (R61, R62, R63, R65, R67). With a recount in flight it is WAITING; with no free entry or
no candidate it is NO_SPACE; otherwise it takes the candidate that comes first in the ranking, with a hold in the
lowest free entry, last in the order of creation. A candidate's bucket is the first permitted one with a net free count
above 0; OPEN zones rank before ADVISORY ones, then the lower rank, then the larger net free count, then the lower zone
number. At an event's end the heads marked are assigned in lane order, and with a retry due the NO_SPACE ones too
(R64). A net free count is free[b] less holds[b], the number of the zone's holds of the bucket (R66). -/
def Obligations.HeadAssigned : Prop :=
  (∀ (s : State) (z : ZoneId) (b : Bucket),
    s.netFree z b = ((s.live.get z).free.get b : Int) - s.holdCount z b ∧
    s.freeCount z b = (s.live.get z).free.get b ∧
    (HoldBooks s → s.holdCount z b = ((List.finRange 128).filter fun id => match s.holds.get id with
      | some h => h.zone == z && h.bucket == b
      | none => false).length)) ∧
  (∀ e : Ev,
    let due (x : Ev) (l : LaneId) : Prop := l ∈ e.assign ∨
      (e.retry = true ∧ ((x.s.lanes.get l).queue.head?.map Arrival.state) = some .noSpace)
    ∃ x : Nat → Ev, x 0 = e ∧ x 8 = e.assignHeads ∧ ∀ l : LaneId,
      (due (x l.val) l → x (l.val + 1) = (x l.val).assignHead l) ∧ (¬ due (x l.val) l → x (l.val + 1) = x l.val)) ∧
  ∀ (e : Ev) (l : LaneId) (head : Arrival) (rest : List Arrival), (e.s.lanes.get l).queue = head :: rest →
    (e.s.recounting = true →
      ((e.assignHead l).s.lanes.get l).queue = { head with state := .waiting } :: rest ∧
      (e.assignHead l).s.holds = e.s.holds) ∧
    (e.s.recounting = false → (e.s.freeHold = none ∨ ∀ z, e.s.candidate l head.el z = none) →
      ((e.assignHead l).s.lanes.get l).queue = { head with state := .noSpace } :: rest ∧
      (e.assignHead l).s.holds = e.s.holds) ∧
    (∀ id : HoldId, e.s.recounting = false → e.s.freeHold = some id →
      (∃ z, (e.s.candidate l head.el z).isSome = true) →
      ∃ c : Candidate, e.s.candidate l head.el c.zone = some c ∧
        (∀ z d, e.s.candidate l head.el z = some d → d.beats c = false ∧ (z < c.zone → c.beats d = true)) ∧
        ((e.assignHead l).s.lanes.get l).queue = { head with state := .assigned c.zone c.bucket id } :: rest ∧
        (e.assignHead l).s.holds = put e.s.holds id
          (some ⟨c.zone, c.bucket, l, c.route, c.groups, e.s.now + c.holdTime * 1000⟩) ∧
        (e.assignHead l).s.holdOrder = e.s.holdOrder ++ [id]) ∧
    (∀ id : HoldId, e.s.freeHold = some id ↔ e.s.holds.get id = none ∧ ∀ j, j < id → (e.s.holds.get j).isSome = true) ∧
    (∀ c d : Candidate, c.beats d = true ↔
      (c.advisory = false ∧ d.advisory = true) ∨
        (c.advisory = d.advisory ∧ (c.rank < d.rank ∨ (c.rank = d.rank ∧ d.net < c.net)))) ∧
    (∀ (z : ZoneId) (x : Zone) (i : RouteId) (r : Route) (b : Bucket), e.s.zones.get z = some x → x.guidance ≠ .closed →
      e.s.routes.get i = some r → r.lane = l → r.zone = z → b ∈ permitted head.el → 0 < e.s.netFree z b →
      (e.s.candidate l head.el z).isSome = true) ∧
    ∀ (z : ZoneId) (c : Candidate), e.s.candidate l head.el z = some c →
      c.zone = z ∧
      (∃ before after, permitted head.el = before ++ c.bucket :: after ∧ 0 < e.s.netFree z c.bucket ∧
        ∀ b ∈ before, e.s.netFree z b ≤ 0) ∧
      c.net = ((permitted head.el).map (e.s.netFree z)).sum ∧
      ∃ (x : Zone) (r : Route), e.s.zones.get z = some x ∧ x.guidance ≠ .closed ∧
        c.advisory = (x.guidance == .advisory) ∧ c.holdTime = x.profile.holdTime ∧
        e.s.routes.get c.route = some r ∧ r.lane = l ∧ r.zone = z ∧ c.rank = r.rank ∧ c.groups = r.groups

/-- The law of the arrival queues (R52) is kept by every step. -/
def Obligations.StepKeepsQueueLaw : Prop :=
  ∀ s t : State, QueueLaw s → step s = .next t → QueueLaw t

/-- The laws of holds (R66) and of closure (R50) are kept by every step, together with the books of the hold table
(R65) and what rests in CONFIG (R52, R65, R167), on which they stand; and on these the law of route counts (R141): each
group's route count is the number of active holds whose copied list names it. -/
def Obligations.StepKeepsHoldLaw : Prop :=
  ∀ s t : State, HoldLaw s → ClosureLaw s → HoldBooks s → ConfigRests s → step s = .next t →
    HoldLaw t ∧ ClosureLaw t ∧ HoldBooks t ∧ ConfigRests t ∧ (RouteLaw s → RouteLaw t)

/-- The reports of Read Zone, Read Fan, Read Group, Read Lane, List Holds and Read Loop Result (R59, R73, R108, R136,
R153, R178) change nothing but the link; the ones with free bytes advance the model's counter of them. Each report byte
by byte, in the layout and with the codes of section 10.7. An item that the spec gives no value there is a free byte
(log entry 6): the cause of an overlay other than PURGE, the state of a station that does not exist, the deferred value
of a fan or group that is not deferred, the seconds of a stopped presence timer, the number of an event that is not
kept. The rest of what the layout leaves open is the model's choice: the seconds that remain are whole seconds (log
entry 5), a driver not yet polled is coded as ACTIVE (log entry 28), the served zones stand as defined and the serving
fans by number (log entry 40), forced by command is the flag in every part state and forced by purge is clear in CONFIG
(log entry 41), and bit 0 of the channel mask and of the motion inputs is channel or input 0 (log entry 49); and the
model's reading: an UNSENSED zone, to which R95 gives no validity count, shows the count 0 and no instants (log entry
26), and a zone shows its manual value under every base programme (log entry 27). -/
def Obligations.ReportsChangeNothing : Prop :=
  (∀ (tag : Byte) (s : State), s.link.waiting = none →
    let drawn : State := { s with draws := s.draws + 1 }
    (∀ (z : ZoneId) (x : Zone), s.zones.get z = some x →
      exec (.readZone tag [byte z.val, 0]) s = .next (drawn.answered tag (.done (zoneReportBytes s z x))) ∧
      exec (.readZone tag [byte z.val, 1]) s = .next (drawn.answered tag (.done (x.profile.fields.flatMap bytes2))) ∧
      exec (.readZone tag [byte z.val, 2]) s = .next (drawn.answered tag (.done
        (match x.pendingProfile with
          | none => [byte z.val]
          | some q => q.fields.flatMap bytes2)))) ∧
    (∀ (f : FanId) (x : Fan), s.fans.get f = some x →
      exec (.readFan tag [byte f.val]) s = .next (drawn.answered tag (.done (fanReportBytes s f x)))) ∧
    (∀ (g : GroupId) (x : Group), s.groups.get g = some x →
      exec (.readGroup tag [byte g.val]) s = .next (drawn.answered tag (.done (groupReportBytes s g x)))) ∧
    (∀ l : LaneId, (s.lanes.get l).direction ≠ .none →
      exec (.readLane tag [byte l.val]) s = .next (drawn.answered tag (.done (laneReportBytes s l)))) ∧
    (∀ first : HoldId,
      let ids := (((List.finRange 128).filter fun i => first ≤ i).filter fun i => (s.holds.get i).isSome).take 12
      exec (.listHolds tag [byte first.val]) s = .next (s.answered tag (.done
        ([byte s.holdOrder.length, byte ids.length] ++ ids.flatMap fun i =>
          match s.holds.get i with
          | some h => holdBytes s i h
          | none => [])))) ∧
    ∀ g : Seg, exec (.readLoopResult tag [byte g.val]) s =
      .next (s.answered tag (.done (loopResultBytes g (s.segments.get g).test)))) ∧
  ([Guidance.opened, .advisory, .closed].map Guidance.code = [0, 1, 2] ∧
    [Programme.auto, .night, .manual].map Programme.code = [0, 1, 2] ∧
    [Overlay.none, .blind, .purge .gas, .purge .commanded].map Overlay.code = [0, 1, 2, 2] ∧
    [PurgeCause.gas, .commanded].map PurgeCause.code = [0, 1] ∧
    [HeadStatus.ok, .warmup, .fault, .cal].map HeadStatus.code = [0, 1, 2, 3] ∧
    [StationState.disabled, .active, .suspect, .lost].map StationState.code = [0, 1, 2, 3] ∧
    [FanState.stopped, .starting, .running, .stopping, .fault, .lost].map FanState.code = [0, 1, 2, 3, 4, 5] ∧
    [FaultReason.none, .startTimeout, .stopTimeout, .trip, .uncommandedStop].map FaultReason.code = [0, 1, 2, 3, 4] ∧
    [GroupState.base, .route, .presence, .forced].map GroupState.code = [0, 1, 2, 3] ∧
    [Movement.steady, .rising, .fading].map Movement.code = [0, 1, 2] ∧
    [Direction.none, .entry, .exit].map Direction.code = [0, 1, 2] ∧
    [TestOutcome.running, .done, .aborted].map TestOutcome.code = [0, 1, 2]) ∧
  (∀ (s : State) (z : ZoneId) (x : Zone),
    let one (b : Bool) (w : Nat) : Nat := if b then w else 0
    let v := x.vent
    let c := s.live.get z
    let heads := (List.finRange 96).filter fun i => (s.stations.get i).enabled && (s.stations.get i).binding == .gas z
    let serving := (List.finRange 32).filter fun f => (s.fans.get f).any fun y => y.served.contains z
    zoneReportBytes s z x =
      [byte z.val, byte x.guidance.code,
       byte (one x.causes.commanded 1 + one x.causes.purge 2 + one x.causes.unventilated 4),
       flagByte (s.recount != .idle)] ++
      bytes2 c.total ++ bytes2 c.opened ++ bytes2 c.occupied ++ bytes2 c.unknown ++
      ((List.finRange 8).flatMap fun b => bytes2 (c.free.get b)) ++
      ((List.finRange 8).map fun b => byte (s.holdCount z b)) ++
      [byte (one (s.sensed z) 1 + one x.air.seeded 2 + one x.air.advisory 4 + one x.air.alarm 8 + one x.air.clear 16 +
        one x.air.evaluated 32), byte (s.validity z)] ++
      (if s.validity z = 0 then [255, 255, 255, 255] else bytes2 (s.coInstant z) ++ bytes2 (s.no2Instant z)) ++
      bytes2 x.air.aCo ++ bytes2 x.air.lCo ++ bytes2 x.air.aNo2 ++ bytes2 x.air.lNo2 ++
      [byte v.base.code, byte v.manualValue, byte v.overlay.code,
       match v.overlay with
        | .purge cause => byte cause.code
        | _ => s.freeByte 0,
       byte (one v.blindPending 1 + one v.runOut 2)] ++
      bytes2 (match v.minPurgeTimer, v.durationTimer with
        | some d, _ => (d - s.now) / 1000
        | none, some d => (d - s.now) / 1000
        | none, none => 0) ++
      [byte v.e, byte v.m, byte v.dCo, byte v.dNo2, byte v.dTraffic, byte v.demand, flagByte v.ventilating, byte v.z,
       byte heads.length] ++
      (heads.flatMap fun i =>
        let y := s.stations.get i
        let valid := y.reading.present && y.reading.status == .ok && y.state != .lost
        [byte (i.val + 1), byte y.state.code, byte y.reading.status.code,
         byte (one y.reading.present 1 + one y.reading.saturated 2 + one valid 4)] ++
        bytes2 y.reading.co ++ bytes2 y.reading.no2) ++
      byte serving.length :: serving.flatMap fun f => [byte f.val, match s.fans.get f with
        | some y => byte y.state.code
        | none => 0]) ∧
  (∀ (s : State) (f : FanId) (x : Fan), fanReportBytes s f x =
      [byte f.val, byte x.served.length] ++ (x.served.map fun z : ZoneId => byte z.val) ++ bytes2 x.pRated ++
      [byte x.minSpeed, byte x.rampStep, byte x.safeSpeed] ++
      (match s.fanStation f with
        | some (i, c) => [byte (i.val + 1), byte c.val, byte (s.stations.get i).state.code]
        | none => [0, 255, s.freeByte 0]) ++
      [byte x.state.code, byte x.reason.code, byte x.target, byte x.wanted, byte x.command,
       match x.lastReport with
        | some .stopped => 0
        | some .running => 1
        | some .tripped => 2
        | none => 255] ++
      bytes2 (match x.startTimer, x.stopTimer with
        | some d, _ => (d - s.now) / 1000
        | none, some d => (d - s.now) / 1000
        | none, none => 0) ++
      (match s.supply.deferredFans.get f with
        | some v => [1, byte v]
        | none => [0, s.freeByte 1]) ++
      bytes2 x.load) ∧
  (∀ (s : State) (g : GroupId) (x : Group),
    let one (b : Bool) (w : Nat) : Nat := if b then w else 0
    let driver := s.groupStation g
    let bits (here : Fin 8 → Prop) (m : Byte) : Prop := ∀ i : Fin 8, m.getLsbD i.val = true ↔ here i
    let names (i : StationId) (c : Fin 8) (ofMotion : Bool) : Prop := ∃ channels motion,
      (s.stations.get i).binding = .light channels motion ∧ (if ofMotion then motion else channels).get c = some g
    ∃ channelMask motionMask : Byte,
      bits (fun c => ∃ i, driver = some i ∧ names i c false) channelMask ∧
      bits (fun c => ∃ i, driver = some i ∧ names i c true) motionMask ∧
      groupReportBytes s g x =
        [byte g.val, byte x.zone.val] ++ bytes2 x.pRated ++
        [byte x.baseLevel, byte x.presenceLevel, byte x.routeLevel] ++ bytes2 x.presenceHold ++
        [byte x.fadeStep, byte x.tolerance, flagByte x.forcedCmd] ++
        (match driver with
          | some i => [byte (i.val + 1), byte (s.stations.get i).state.code]
          | none => [0, if s.part = .config then 1 else 3]) ++
        [channelMask, motionMask, byte x.state.code,
         byte (one (s.part != .config && s.purged x.zone) 1 + one x.forcedCmd 2)] ++
        (match x.presenceTimer with
          | some d => bytes2 ((d - s.now) / 1000)
          | none => [s.freeByte 0, s.freeByte 1]) ++
        [byte x.routeCount, byte x.wanted, byte x.commanded, byte x.movement.code] ++
        (match s.supply.deferredGroups.get g with
          | some v => [1, byte v]
          | none => [0, s.freeByte 2]) ++
        bytes2 x.load ++ [byte x.priority] ++
        ((List.finRange 8).map fun c => byte (match x.lamps.get c with
          | none => 0
          | some .ok => 1
          | some .failed => 2)) ++
        [byte x.failedCount, flagByte x.degraded]) ∧
  (∀ (s : State) (l : LaneId),
    let x := s.lanes.get l
    ∃ (detector : Option StationId) (panel : Option PanelId),
      (∀ i, detector = some i ↔ Lowest (fun j => (s.stations.get j).enabled = true ∧
        (s.stations.get j).binding = .lane l) i) ∧
      (∀ i, panel = some i ↔ (s.panels.get i).kind = .lane l ∧ ∀ j, (s.panels.get j).kind = .lane l → i ≤ j) ∧
      laneReportBytes s l =
        [byte l.val, byte x.direction.code, byte x.lc.val, byte x.movement.length] ++
        (x.movement.map fun z : ZoneId => byte z.val) ++
        (match detector with
          | some i => [byte (i.val + 1), byte (s.stations.get i).state.code]
          | none => [0, s.freeByte 0]) ++
        [match panel with
          | some i => byte i.val
          | none => 255] ++
        (match detector.bind fun i => (s.stations.get i).lastEvent with
          | some n => [1, n]
          | none => [0, s.freeByte 1]) ++
        byte x.queue.length :: x.queue.flatMap fun a => [byte a.vl.val, byte a.el.val] ++ match a.state with
          | .waiting => [0, 255, 255, 255]
          | .assigned z b h => [1, byte z.val, byte b.val, byte h.val]
          | .noSpace => [2, 255, 255, 255]) ∧
  (∀ (s : State) (id : HoldId) (h : Hold), h.groups.length ≤ 8 → holdBytes s id h =
    [byte id.val, byte h.zone.val, byte h.bucket.val, byte h.lane.val, byte h.route.val, byte h.groups.length] ++
    (h.groups.map fun g : GroupId => byte g.val) ++ List.replicate (8 - h.groups.length) 255 ++
    bytes2 ((h.expiry - s.now) / 1000)) ∧
  (∀ g : Seg, loopResultBytes g none = List.replicate 13 0) ∧
  ∀ (g : Seg) (r : TestRecord), loopResultBytes g (some r) =
    [1, byte g.val, byte (r.station.val + 1), match r.pattern with
      | .prbs => 0
      | .fixed _ => 1] ++
    bytes2 r.frameCount ++ bytes2 r.sent ++ bytes2 r.returned ++
    [byte r.byteErrors, byte r.timeouts, byte r.outcome.code]

/-! ### Sign panels -/

/-- The content each kind of panel ought to show (R79, R80, R81), when its record is dirty (R82), and the bytes of a
content in a command (section 10.7). A zone counts as CLOSED while it is configured and its guidance state is
CLOSED. And a panel's wanted content follows what the panel reads (R76, R78): every step keeps the law of wanted
content: outside CONFIG every panel's wanted content is what its kind ought to show by the counts, holds, guidance
states and lanes as they stand, none for kind NONE; in CONFIG no panel has one. -/
def Obligations.PanelContents : Prop :=
  (Content.countClosed.bytes = [1, 255, 255, 0, 0] ∧ Content.countFull.bytes = [1, 0, 0, 0, 0] ∧
    (∀ n : Nat, (Content.countNumber n).bytes = [1, byte (n / 256), byte n, 0, 0]) ∧
    (∀ es : List ArrowEntry, es.length ≤ 4 → (Content.arrows es).bytes =
      2 :: (es.map (fun e => byte (match e with
        | .arrow .left => 0
        | .arrow .right => 1
        | .arrow .ahead => 2
        | .arrow .rampDown => 3
        | .arrow .rampUp => 4
        | .full => 5
        | .closed => 6)) ++ List.replicate (4 - es.length) 255)) ∧
    Content.laneBlank.bytes = [3, 0, 0, 0, 0] ∧ Content.laneWait.bytes = [3, 1, 0, 0, 0] ∧
    Content.laneFull.bytes = [3, 2, 0, 0, 0] ∧
    ∀ (z : ZoneId) (l : AccessLevel), (Content.laneZone z l).bytes = [3, 3, byte z.val, byte l.val, 0]) ∧
  (∀ (s : State) (z : ZoneId), s.zoneClosed z = true ↔ ∃ x, s.zones.get z = some x ∧ x.guidance = .closed) ∧
  (∀ (s : State) (zones : List ZoneId) (mask : BitVec 8),
    let value := (zones.map fun z => ((List.finRange 8).map fun b : Bucket =>
      if mask.getLsbD b.val then (s.netFree z b).toNat else 0).sum).sum
    s.contentOf (.count zones mask) = some
      (if ∀ z ∈ zones, s.zoneClosed z = true then .countClosed
       else if value = 0 then .countFull
       else .countNumber (min 999 value))) ∧
  (∀ (s : State) (fields : List (ZoneId × Arrow)) (mask : BitVec 8) (i : Nat) (f : ZoneId × Arrow),
    fields[i]? = some f → ∃ es : List ArrowEntry, s.contentOf (.zoneArrow fields mask) = some (.arrows es) ∧
      es.length = fields.length ∧
      (s.zoneClosed f.1 = true → es[i]? = some .closed) ∧
      (s.zoneClosed f.1 = false → (∀ b : Bucket, mask.getLsbD b.val = true → s.netFree f.1 b ≤ 0) → es[i]? = some .full) ∧
      (s.zoneClosed f.1 = false → (∃ b : Bucket, mask.getLsbD b.val = true ∧ 0 < s.netFree f.1 b) →
        es[i]? = some (.arrow f.2))) ∧
  (∀ (s : State) (l : LaneId),
    ((s.lanes.get l).queue = [] → s.contentOf (.lane l) = some .laneBlank) ∧
    ∀ (a : Arrival) (rest : List Arrival), (s.lanes.get l).queue = a :: rest →
      (a.state = .waiting → s.contentOf (.lane l) = some .laneWait) ∧
      (a.state = .noSpace → s.contentOf (.lane l) = some .laneFull) ∧
      ∀ z b id, a.state = .assigned z b id →
        ∃ v : AccessLevel, v.val = b.val / 2 ∧ s.contentOf (.lane l) = some (.laneZone z v)) ∧
  (∀ x : Panel, x.dirty = true ↔ ∃ c, x.wanted = some c ∧
    (match x.inFlight with
      | some u => some u.1
      | none => x.shown) ≠ some c) ∧
  (∀ s : State, s.contentOf .none = none) ∧
  ∀ s t : State, PanelLaw s → step s = .next t → PanelLaw t

/-- R86, whole: a READY whose tag does not confirm an update; and R85: the READY that confirms one. -/
def Obligations.PanelHandshake : Prop :=
  ∀ (x : Panel) (t : Byte) (now : Nat),
    (∀ (c : Content) (u : Byte), x.inFlight = some (c, u) → t = u →
      x.ready t now = { x with
        lastReport := .ready t, shown := some c, shownTag := some t, inFlight := none
        holdOff := if x.kind.isCount then some (now + 5000) else x.holdOff }) ∧
    (∀ (c : Content) (u : Byte), x.inFlight = some (c, u) → t ≠ u → x.shownTag = some t →
      x.ready t now = { x with lastReport := .ready t, inFlight := none }) ∧
    (∀ (c : Content) (u : Byte), x.inFlight = some (c, u) → t ≠ u → x.shownTag ≠ some t →
      x.ready t now = { x with lastReport := .ready t, inFlight := none, shown := none, shownTag := none }) ∧
    (x.inFlight = none → (x.shownTag = some t ∨ x.shownTag = none) →
      x.ready t now = { x with lastReport := .ready t }) ∧
    (x.inFlight = none → x.shownTag ≠ some t → x.shownTag ≠ none →
      x.ready t now = { x with lastReport := .ready t, shown := none, shownTag := none }) ∧
    (∀ (p : List Byte), (p.getD 0 0 = 0 → x.report p now = { x with lastReport := .busy }) ∧
      (p.getD 0 0 = 1 → x.report p now = x.ready (p.getD 1 0) now)) ∧
    ((x.ready t now).shown = none → (x.ready t now).wanted.isSome = true → (x.ready t now).inFlight = none →
      (x.ready t now).dirty = true ∧
      ((x.ready t now).holdOff = none → (x.ready t now).readyToSend = true))

/-- Define Panel (R77) and HOLD_OFF_EXPIRY (R88). An expiry of a stopped timer changes nothing: the model's choice, log
entry 4. -/
def Obligations.PanelDefinedAndHoldOff : Prop :=
  (∀ (tag : Byte) (i : PanelId) (lane mask : Byte) (zs : List (ZoneId × Byte)) (pad : List Byte) (s : State),
    s.link.waiting = none → s.part = .config → mask ≠ 0 → 1 ≤ zs.length → zs.length ≤ 4 →
    (zs.map Prod.fst).Nodup → (∀ z ∈ zs, (s.zones.get z.1).isSome = true) → 2 * zs.length + pad.length = 8 →
    exec (.definePanel tag (panelPayload i 1 lane mask (zs.map fun z => (byte z.1.val, z.2)) ++ pad)) s = .next
      ((s.setPanel i { s.panels.get i with kind := .count (zs.map Prod.fst) mask }).answered tag (.done []))) ∧
  (∀ (tag : Byte) (i : PanelId) (lane mask : Byte) (fs : List (ZoneId × Arrow)) (pad : List Byte) (s : State),
    s.link.waiting = none → s.part = .config → mask ≠ 0 → 1 ≤ fs.length → fs.length ≤ 4 →
    (fs.map Prod.fst).Nodup → (∀ z ∈ fs, (s.zones.get z.1).isSome = true) → 2 * fs.length + pad.length = 8 →
    exec (.definePanel tag (panelPayload i 2 lane mask (fs.map fun f => (byte f.1.val, byte f.2.code)) ++ pad)) s = .next
      ((s.setPanel i { s.panels.get i with kind := .zoneArrow fs mask }).answered tag (.done []))) ∧
  (∀ (tag : Byte) (i : PanelId) (l : LaneId) (pad : List Byte) (s : State), s.link.waiting = none →
    s.part = .config → pad.length = 10 → (s.lanes.get l).direction = .entry →
    (∀ j : PanelId, j ≠ i → (s.panels.get j).kind ≠ .lane l) →
    exec (.definePanel tag ([byte i.val, 3, byte l.val] ++ pad)) s = .next
      ((s.setPanel i { s.panels.get i with kind := .lane l }).answered tag (.done []))) ∧
  (∀ (tag : Byte) (i : PanelId) (pad : List Byte) (s : State), s.link.waiting = none → s.part = .config →
    pad.length = 11 →
    exec (.definePanel tag ([byte i.val, 0] ++ pad)) s = .next
      ((s.setPanel i { s.panels.get i with kind := .none }).answered tag (.done []))) ∧
  ∀ (i : PanelId) (s : State),
    (∀ d, (s.panels.get i).holdOff = some d →
      exec (.holdOffExpiry i) s = .next
        ((({ s with now := max s.now d } : State).setPanel i { s.panels.get i with holdOff := none }).closed)) ∧
    ((s.panels.get i).holdOff = none → exec (.holdOffExpiry i) s = .next s.closed)

/-! ### Air -/

/-- R103, whole: the averages of a SENSED zone at an evaluation with validity count `valid` and the instants `co` and
`no2`. -/
def Obligations.AveragesAtEvaluation : Prop :=
  ∀ (x : Zone) (valid co no2 : Nat),
    let a := x.air
    let b := (x.airStep true valid co no2).air
    (valid = 0 → b.seeded = a.seeded ∧ b.aCo = a.aCo ∧ b.lCo = a.lCo ∧ b.aNo2 = a.aNo2 ∧ b.lNo2 = a.lNo2) ∧
    (0 < valid → a.seeded = false →
      b.seeded = true ∧ b.aCo = 16 * co ∧ b.lCo = 16 * co ∧ b.aNo2 = 16 * no2 ∧ b.lNo2 = 16 * no2) ∧
    (0 < valid → a.seeded = true →
      b.seeded = true ∧
      8 * b.aCo ≤ 7 * a.aCo + 16 * co ∧ 7 * a.aCo + 16 * co < 8 * b.aCo + 8 ∧
      8 * b.aNo2 ≤ 7 * a.aNo2 + 16 * no2 ∧ 7 * a.aNo2 + 16 * no2 < 8 * b.aNo2 + 8 ∧
      64 * b.lCo ≤ 63 * a.lCo + 16 * co ∧ 63 * a.lCo + 16 * co < 64 * b.lCo + 64 ∧
      64 * b.lNo2 ≤ 63 * a.lNo2 + 16 * no2 ∧ 63 * a.lNo2 + 16 * no2 < 64 * b.lNo2 + 64)

/-- The tests of an evaluation on the averages it leaves, by the profile it adopts (R100, R105, R106, R107); an
UNSENSED zone keeps its air record but for the mark of the evaluation; and the validity count, which is the number of
valid heads of the zone, and the instants, which are the maxima among them (R93, R94); that the count of an UNSENSED
zone is 0 is the model's reading, log entry 26. -/
def Obligations.AirTests : Prop :=
  (∀ (x : Zone) (valid co no2 : Nat),
    let y := x.airStep true valid co no2
    let p := y.profile
    p = x.pendingProfile.getD x.profile ∧ y.pendingProfile = none ∧
    (y.air.alarm = true ↔ y.air.seeded = true ∧ (16 * p.co.alarm ≤ y.air.aCo ∨ 16 * p.no2.alarm ≤ y.air.aNo2)) ∧
    (y.air.clear = true ↔ y.air.seeded = true ∧ y.air.aCo < 16 * p.co.clear ∧ y.air.aNo2 < 16 * p.no2.clear) ∧
    (y.air.seeded = false → y.air.advisory = x.air.advisory) ∧
    (y.air.seeded = true → (16 * p.co.advisory ≤ y.air.lCo ∨ 16 * p.no2.advisory ≤ y.air.lNo2) →
      y.air.advisory = true) ∧
    (y.air.seeded = true → y.air.lCo < 16 * (p.co.advisory * 4 / 5) → y.air.lNo2 < 16 * (p.no2.advisory * 4 / 5) →
      y.air.advisory = false) ∧
    (y.air.seeded = true → y.air.lCo < 16 * p.co.advisory → y.air.lNo2 < 16 * p.no2.advisory →
      (16 * (p.co.advisory * 4 / 5) ≤ y.air.lCo ∨ 16 * (p.no2.advisory * 4 / 5) ≤ y.air.lNo2) →
      y.air.advisory = x.air.advisory)) ∧
  (∀ (x : Zone) (valid co no2 : Nat), (x.airStep false valid co no2).air = { x.air with evaluated := true }) ∧
  ∀ (s : State) (z : ZoneId),
    let valid (i : StationId) : Bool := decide
      ((s.stations.get i).enabled = true ∧ (s.stations.get i).binding = .gas z ∧
      (s.stations.get i).reading.present = true ∧ (s.stations.get i).reading.status = .ok ∧
      (s.stations.get i).state ≠ .lost)
    s.validity z = ((List.finRange 96).filter valid).length ∧
    (s.validity z = 0 ↔ ∀ i, valid i = false) ∧
    (∀ i, valid i → (s.stations.get i).reading.co ≤ s.coInstant z ∧ (s.stations.get i).reading.no2 ≤ s.no2Instant z) ∧
    (0 < s.validity z →
      (∃ i, valid i ∧ (s.stations.get i).reading.co = s.coInstant z) ∧
      ∃ i, valid i ∧ (s.stations.get i).reading.no2 = s.no2Instant z)

/-- Define Zone (R98, R99, R100): in CONFIG a zone is configured, or its profile in effect rewritten with its base
programme; in STARTING and RUN the pending profile is written. The short form carries the default profile. The order,
the defaults and the ranges of fields 1 to 24 are those of the table of R98, and the relations those of R99. A field
out of its range and a relation that fails refuse the full form with RANGE, the first one named; a zone that is not
configured refuses either form with NO_OBJECT in STARTING and RUN. -/
def Obligations.ZoneDefined : Prop :=
  (∀ p : Profile, p.fields =
    [p.co.low, p.co.high, p.co.advisory, p.co.alarm, p.co.clear, p.co.peak,
     p.no2.low, p.no2.high, p.no2.advisory, p.no2.alarm, p.no2.clear, p.no2.peak,
     p.period, p.minPurge, p.autoFloor, p.nightFloor, p.nightCeiling, p.startThreshold, p.stopThreshold,
     p.blindDemand, p.trafficGain, p.holdTime,
     match p.programme with
      | .auto => 0
      | .night => 1
      | .manual => 2, p.manualValue]) ∧
  Profile.default.fields =
    [25, 100, 50, 150, 75, 400, 10, 50, 30, 80, 40, 150, 10, 600, 10, 0, 60, 15, 8, 50, 6, 180, 0, 0] ∧
  profileRanges =
    [(0, 500), (0, 500), (0, 500), (0, 500), (0, 500), (0, 500), (0, 200), (0, 200), (0, 200), (0, 200), (0, 200),
     (0, 200), (2, 30), (60, 3600), (0, 100), (0, 100), (0, 100), (0, 100), (0, 100), (0, 100), (0, 40), (30, 900),
     (0, 2), (0, 100)] ∧
  (∀ p : Profile, p.inRange ↔ ∀ i : Nat, i < 24 →
    ∃ range v, profileRanges[i]? = some range ∧ p.fields[i]? = some v ∧ range.1 ≤ v ∧ v ≤ range.2) ∧
  (∀ p : Profile,
    let relations : List (Bool × Nat) :=
      [(p.co.low < p.co.high, 2), (p.co.high ≤ p.co.alarm, 4), (p.co.alarm < p.co.peak, 6),
       (p.co.clear < p.co.alarm, 4), (p.co.advisory ≤ p.co.alarm, 4),
       (p.no2.low < p.no2.high, 8), (p.no2.high ≤ p.no2.alarm, 10), (p.no2.alarm < p.no2.peak, 12),
       (p.no2.clear < p.no2.alarm, 10), (p.no2.advisory ≤ p.no2.alarm, 10),
       (p.stopThreshold < p.startThreshold, 18), (p.nightFloor ≤ p.nightCeiling, 17)]
    (p.consistent ↔ ∀ r ∈ relations, r.1 = true) ∧
    ∀ (tag : Byte) (z : ZoneId) (before after : List (Bool × Nat)) (right v : Nat) (s : State), s.link.waiting = none →
      s.part ≠ .stopping → p.inRange → relations = before ++ (false, right) :: after → (∀ r ∈ before, r.1 = true) →
      p.fields[right - 1]? = some v →
      exec (.defineZone tag (byte z.val :: p.fields.flatMap bytes2)) s =
        .next (s.answered tag (.reject ⟨.range, right, v⟩))) ∧
  (∀ (tag : Byte) (z : ZoneId) (before after : List Nat) (v : Nat) (range : Nat × Nat) (s : State),
    s.link.waiting = none → s.part ≠ .stopping → before.length + 1 + after.length = 24 →
    (∀ w ∈ before ++ v :: after, w < 65536) →
    (∀ (i w : Nat) (q : Nat × Nat), before[i]? = some w → profileRanges[i]? = some q → q.1 ≤ w ∧ w ≤ q.2) →
    profileRanges[before.length]? = some range → (v < range.1 ∨ range.2 < v) →
    exec (.defineZone tag (byte z.val :: (before ++ v :: after).flatMap bytes2)) s =
      .next (s.answered tag (.reject ⟨.range, before.length + 1, v⟩))) ∧
  ∀ (tag : Byte) (z : ZoneId) (p : Profile) (payload : List Byte) (s : State), s.link.waiting = none →
    ((payload = byte z.val :: p.fields.flatMap bytes2 ∧ p.inRange ∧ p.consistent) ∨
      (payload = [byte z.val] ∧ p = Profile.default)) →
    (s.part = .config → s.zones.get z = none →
      exec (.defineZone tag payload) s = .next ((s.setZone z (some
        { profile := p, pendingProfile := none, causes := ⟨false, false, false⟩
          air := ⟨false, 0, 0, 0, 0, false, false, false, false⟩
          vent :=
            { base := p.programme, manualValue := p.manualValue, overlay := .none, blindPending := false
              minPurgeTimer := none, runOut := false, durationTimer := none, e := 0, m := 0, dCo := 0, dNo2 := 0
              dTraffic := 0, demand := 0, ventilating := false, z := 0, evalTimer := none } })).answered tag (.done []))) ∧
    (∀ x, s.part = .config → s.zones.get z = some x →
      exec (.defineZone tag payload) s = .next ((s.setZone z (some { x with
        profile := p, pendingProfile := none
        vent := { x.vent with base := p.programme, manualValue := p.manualValue } })).answered tag (.done []))) ∧
    (∀ x, s.running = true → s.zones.get z = some x →
      exec (.defineZone tag payload) s =
        .next ((s.setZone z (some { x with pendingProfile := some p })).answered tag (.done []))) ∧
    (s.running = true → s.zones.get z = none →
      exec (.defineZone tag payload) s = .next (s.answered tag (.reject ⟨.noObject, 0, z.val⟩)))

/-- The law of the averages (R101), with the bound on the readings (R91, R92), is kept by every step. -/
def Obligations.StepKeepsAirLaw : Prop :=
  ∀ s t : State, AirLaw s → step s = .next t → AirLaw t

/-! ### Ventilation -/

/-- ZONE_EVALUATION (R102, R110 to R119, R129): the zone's record after the stages in their order, the timer started
again with the period of the profile adopted, and the targets of the fans serving it. A ZONE_ALARM notice (R120, R124,
R125) tells that an alarm has made GAS the cause of a purge, or that a GAS purge has ended. The stages that no other
statement gives: the overlay step's alarm and the end of a GAS purge (R118, R120, R124, R125); the blind test by
overlay and validity count (R119), which a zone takes while it is SENSED, an enabled GAS station binding it (R95); and
a fan's target, the largest Z of its served zones raised to its minimum speed (R129). An alarm in NONE or BLIND enters
the GAS purge in the overlay step, on the record of the stages before it, with all that the entry does (R120): the
deferred fans that it makes class 1 are served as PurgeBegun gives (R159; before any other request of the event: the
model's reading, log entry 17); the blind test and stages 5 and 6 follow. An expiry of a stopped timer changes nothing:
the model's choice, log entry 4. -/
def Obligations.ZoneEvaluated : Prop :=
  (∀ (v : Vent) (valid : Nat),
    (v.overlay = .none → v.blindTest valid = if valid = 0 then { v with overlay := .blind } else v) ∧
    (v.overlay = .blind → v.blindTest valid = if valid = 0 then v else { v with overlay := .none }) ∧
    ∀ c, v.overlay = .purge c → v.blindTest valid = { v with blindPending := decide (valid = 0) }) ∧
  (∀ (s : State) (z : ZoneId), s.sensed z = true ↔
    ∃ i : StationId, (s.stations.get i).enabled = true ∧ (s.stations.get i).binding = .gas z) ∧
  (∀ (s : State) (x : Fan), ∃ v : Nat,
    (∀ z ∈ x.served, ∀ y, s.zones.get z = some y → y.vent.z ≤ v) ∧
    (v = 0 ∨ ∃ z ∈ x.served, ∃ y, s.zones.get z = some y ∧ y.vent.z = v) ∧
    s.fanTarget x = if 0 < v ∧ v < x.minSpeed then x.minSpeed else v) ∧
  (∀ (x : Zone) (now : Nat),
    let gas : Vent := { x.vent with
      overlay := .purge .gas, minPurgeTimer := some (now + x.profile.minPurge * 1000), runOut := false
      durationTimer := none }
    (x.air.alarm = true →
      (x.vent.overlay = .purge .gas → x.overlaid now = x) ∧
      (x.vent.overlay = .purge .commanded → x.overlaid now = { x with vent := gas }) ∧
      (x.vent.overlay = .none → x.overlaid now =
        { x with vent := gas, causes := { x.causes with purge := true } }) ∧
      (x.vent.overlay = .blind → x.overlaid now =
        { x with vent := { gas with blindPending := true }, causes := { x.causes with purge := true } })) ∧
    (x.air.alarm = false →
      (x.vent.overlay = .purge .gas → x.vent.runOut = true → x.air.clear = true → x.overlaid now = { x with
        vent := { x.vent with
          overlay := if x.vent.blindPending then .blind else .none, blindPending := false, minPurgeTimer := none
          durationTimer := none, runOut := false }
        causes := { x.causes with purge := false } }) ∧
      (x.vent.overlay ≠ .purge .gas ∨ x.vent.runOut = false ∨ x.air.clear = false → x.overlaid now = x))) ∧
  (∀ (z : ZoneId) (x : Zone) (d : Nat) (s : State), s.zones.get z = some x → x.vent.evalTimer = some d →
    let s1 : State := { s with now := max s.now d }
    let y := x.evaluated (s.sensed z) (s.validity z) (s.coInstant z) (s.no2Instant z) s1.now
    ∃ t, exec (.zoneEvaluation z) s = .next t ∧ Settles (s1.demanded z y) t ∧
      (y.air.alarm = true → x.vent.overlay ≠ .purge .gas → Told s t .zoneAlarm z.val [0, 0]) ∧
      (y.air.alarm = false → x.vent.overlay = .purge .gas → x.vent.runOut = true → y.air.clear = true →
        Told s t .zoneAlarm z.val [1, 0]) ∧
      (y.air.alarm = true → x.vent.overlay = .none ∨ x.vent.overlay = .blind → ∃ e : Ev,
        e.s = s1.setZone z
          (some (x.sampled (s.sensed z) (s.validity z) (s.coInstant z) (s.no2Instant z) s1.now)) ∧
        let entered := e.enterPurge z .gas 0
        let tested := if s.sensed z
          then entered.mapS fun u => u.updZone z fun v => { v with vent := v.vent.blindTest (s.validity z) }
          else entered
        t = (tested.demandStep z).finish s)) ∧
  ∀ (z : ZoneId) (s : State), ((s.zones.get z).bind fun x => x.vent.evalTimer) = none →
    exec (.zoneEvaluation z) s = .next s.closed

/-- R111 and R115, whole, with the movement counter and the demand of R113 and R114: the gas demands of stage 2, the
counter and the traffic demand of stage 3, and D, the ventilating flag and Z of stage 5. -/
def Obligations.DemandFormulas : Prop :=
  (∀ (x : Zone),
    let y := x.demands true
    (x.air.aCo ≤ 16 * x.profile.co.low → y.vent.dCo = 0) ∧
    (16 * x.profile.co.low < x.air.aCo → 16 * x.profile.co.high ≤ x.air.aCo → y.vent.dCo = 100) ∧
    (16 * x.profile.co.low < x.air.aCo → x.air.aCo < 16 * x.profile.co.high →
      y.vent.dCo = 100 * (x.air.aCo - 16 * x.profile.co.low) / (16 * (x.profile.co.high - x.profile.co.low))) ∧
    (x.air.aNo2 ≤ 16 * x.profile.no2.low → y.vent.dNo2 = 0) ∧
    (16 * x.profile.no2.low < x.air.aNo2 → 16 * x.profile.no2.high ≤ x.air.aNo2 → y.vent.dNo2 = 100) ∧
    (16 * x.profile.no2.low < x.air.aNo2 → x.air.aNo2 < 16 * x.profile.no2.high →
      y.vent.dNo2 = 100 * (x.air.aNo2 - 16 * x.profile.no2.low) / (16 * (x.profile.no2.high - x.profile.no2.low))) ∧
    y.vent.dCo ≤ 100 ∧ y.vent.dNo2 ≤ 100 ∧ (x.demands false).vent.dCo = 0 ∧ (x.demands false).vent.dNo2 = 0) ∧
  (∀ (x : Zone) (sensed : Bool),
    let y := x.demands sensed
    y.vent.m = min 255 (x.vent.m - x.vent.m / 4 + x.vent.e) ∧ y.vent.e = 0 ∧
      y.vent.dTraffic = min 100 (y.vent.m * x.profile.trafficGain / 4)) ∧
  (∀ (v : Vent) (p : Profile),
    (∀ c, v.overlay = .purge c → v.formDemand p = 100) ∧
    (v.overlay = .blind → v.formDemand p = p.blindDemand) ∧
    (v.overlay = .none → v.base = .manual → v.formDemand p = v.manualValue) ∧
    (v.overlay = .none → v.base = .auto →
      v.formDemand p = max (max v.dCo (max v.dNo2 v.dTraffic)) p.autoFloor) ∧
    (v.overlay = .none → v.base = .night →
      v.formDemand p = min p.nightCeiling (max (max v.dCo (max v.dNo2 v.dTraffic)) p.nightFloor))) ∧
  ∀ (v : Vent) (p : Profile),
    let w := v.stage5 p
    w.demand = v.formDemand p ∧
    (v.overlay = .none → v.base ≠ .manual →
      (p.startThreshold ≤ w.demand → w.ventilating = true) ∧
      (w.demand < p.startThreshold → w.demand < p.stopThreshold → w.ventilating = false) ∧
      (p.stopThreshold ≤ w.demand → w.demand < p.startThreshold → w.ventilating = v.ventilating) ∧
      w.z = if w.ventilating then w.demand else 0) ∧
    (v.overlay ≠ .none ∨ v.base = .manual → w.z = w.demand ∧ (w.ventilating = true ↔ 0 < w.z))

/-- The law of demand (R114), with the ranges of the profiles (R98), is kept by every step; and on it the law of
targets and wanted speeds (R129). On these, with the law of purge (R120) and what rests in CONFIG, every step keeps the
law of commands (R130): every fan's command is 0 or between its minimum speed and 100, and a fan in FAULT has command
0; it carries the deferred values, each between the minimum speed and 100. -/
def Obligations.StepKeepsDemandLaw : Prop :=
  ∀ s t : State, DemandLaw s → step s = .next t →
    DemandLaw t ∧ (FanLaw s → FanLaw t ∧ (PurgeLaw s → ConfigRests s → SpeedLaw s → SpeedLaw t))

/-- The law of purge (R120) is kept by every step, together with what rests in CONFIG (R52, R65, R167). -/
def Obligations.StepKeepsPurgeLaw : Prop :=
  ∀ s t : State, PurgeLaw s → ConfigRests s → step s = .next t → PurgeLaw t ∧ ConfigRests t

/-- Set Programme (R116, R117): the base programme is written; outside CONFIG, while the overlay is NONE, stages 5 and
6 follow at once. That the manual value is written with every programme, and that the base already held is recomputed
too, is the model's reading: log entry 27. -/
def Obligations.ProgrammeSet : Prop :=
  ∀ (tag : Byte) (z : ZoneId) (b : Programme) (v : Nat) (x : Zone) (s : State), s.link.waiting = none →
    s.part ≠ .stopping → v ≤ 100 → s.zones.get z = some x →
    let y : Zone := { x with vent := { x.vent with base := b, manualValue := v } }
    (s.part = .config ∨ x.vent.overlay ≠ .none →
      exec (.setProgramme tag [byte z.val, byte b.code, byte v]) s =
        .next ((s.setZone z (some y)).answered tag (.done []))) ∧
    (s.running = true → x.vent.overlay = .none →
      ∃ t, exec (.setProgramme tag [byte z.val, byte b.code, byte v]) s = .next t ∧
        Settles (s.demanded z y) t ∧ Replied s t tag (.done []))

/-- Begin Purge (R120, R123): from NONE or BLIND the zone enters a COMMANDED purge and closes, and ZONE_ALARM tells so;
a COMMANDED purge has its duration started again. And an entry into PURGE from NONE or BLIND, of either cause, serves
the fans it promotes (R159): with the zone in PURGE and its groups FORCED, every fan that serves the zone, was of class
3 and is in the deferred set asks, in that event, as a class 1 fan for its deferred value; GrantsFitTheHeadroom says
what such a request sheds and grants. That they ask in the order of the fan numbers, before any other request of the
event, is the model's reading: log entry 17. Stages 5 and 6 follow. A peak trip (R121) enters the GAS purge so; an alarm
as ZoneEvaluated gives. -/
def Obligations.PurgeBegun : Prop :=
  (∀ (tag : Byte) (z : ZoneId) (duration : Nat) (x : Zone) (s : State), s.link.waiting = none → s.running = true →
    60 ≤ duration → duration ≤ 3600 → s.zones.get z = some x →
    (x.vent.overlay = .none ∨ x.vent.overlay = .blind →
      let y : Zone := { x with
        causes := { x.causes with purge := true }
        vent := { x.vent with
          overlay := .purge .commanded, durationTimer := some (s.now + duration * 1000)
          blindPending := x.vent.blindPending || x.vent.overlay == .blind } }
      ∃ t, exec (.beginPurge tag (byte z.val :: bytes2 duration)) s = .next t ∧
        Settles (s.demanded z y) t ∧ Replied s t tag (.done []) ∧ Told s t .zoneAlarm z.val [0, 1] ∧
        (∀ f : Zone, t.zones.get z = some f → f.vent.z = 100 ∧ f.guidance = .closed) ∧
        t = ((((Ev.begin s).enterPurge z .commanded duration).demandStep z).queueReply tag (.done [])).finish s) ∧
    (x.vent.overlay = .purge .commanded →
      exec (.beginPurge tag (byte z.val :: bytes2 duration)) s = .next
        ((s.setZone z (some { x with vent := { x.vent with
          durationTimer := some (s.now + duration * 1000) } })).answered tag (.done [])))) ∧
  (∀ (e : Ev) (z : ZoneId) (x : Zone) (c : PurgeCause) (duration : Nat), e.s.zones.get z = some x →
    e.s.part ≠ .config → x.vent.overlay = .none ∨ x.vent.overlay = .blind →
    ∃ served : Nat → Ev,
      (let entered := (served 0).s
       entered.purged z = true ∧ entered.fans = e.s.fans ∧ entered.supply = e.s.supply ∧
       entered.committed = e.s.committed ∧
       ∀ g y, entered.groups.get g = some y → y.zone = z → y.state = .forced) ∧
      (∀ f : FanId,
        let before := served f.val
        served (f.val + 1) = match e.s.fans.get f, e.s.supply.deferredFans.get f with
          | some y, some v => if z ∈ y.served ∧ e.s.fanClass y = 3 then before.askFan f v else before
          | _, _ => before) ∧
      (∀ (f : FanId) (y : Fan) (n : Nat), e.s.fans.get f = some y → z ∈ y.served → n ≤ f.val →
        (served n).s.fanClass y = 1 ∧ (served n).s.fans.get f = some y ∧
          (served n).s.supply.deferredFans.get f = e.s.supply.deferredFans.get f) ∧
      e.enterPurge z c duration = (served 32).raise .zoneAlarm z.val [0, byte c.code]) ∧
  ∀ (e : Ev) (z : ZoneId) (x : Zone), e.s.zones.get z = some x →
    x.vent.overlay = .none ∨ x.vent.overlay = .blind → e.peakTrip z = (e.enterPurge z .gas 0).demandStep z

/-- End Purge, PURGE_DURATION_EXPIRY and MIN_PURGE_EXPIRY (R122, R124, R125): a COMMANDED purge ends into BLIND or
NONE, with its cause of closure, and ZONE_ALARM tells so; the minimum purge timer sets its run-out mark and no more.
Expiries of stopped timers change nothing: the model's choice, log entry 4. -/
def Obligations.PurgeEnds : Prop :=
  (∀ (tag : Byte) (z : ZoneId) (x : Zone) (s : State), s.link.waiting = none → s.running = true →
    s.zones.get z = some x →
    (x.vent.overlay = .purge .commanded →
      ∃ t, exec (.endPurge tag [byte z.val]) s = .next t ∧
        Settles (s.demanded z x.purgeEnded) t ∧ Replied s t tag (.done []) ∧ Told s t .zoneAlarm z.val [1, 1]) ∧
    (x.vent.overlay = .none ∨ x.vent.overlay = .blind →
      exec (.endPurge tag [byte z.val]) s = .next (s.answered tag (.done [])))) ∧
  (∀ (z : ZoneId) (x : Zone) (s : State), s.zones.get z = some x →
    (∀ d, x.vent.durationTimer = some d →
      ∃ t, exec (.purgeDurationExpiry z) s = .next t ∧
        Settles (({ s with now := max s.now d } : State).demanded z x.purgeEnded) t ∧
        Told s t .zoneAlarm z.val [1, 1]) ∧
    (x.vent.durationTimer = none → exec (.purgeDurationExpiry z) s = .next s.closed) ∧
    (∀ d, x.vent.minPurgeTimer = some d →
      exec (.minPurgeExpiry z) s = .next
        ((({ s with now := max s.now d } : State).setZone z (some { x with vent := { x.vent with
          minPurgeTimer := none, runOut := true } })).closed)) ∧
    (x.vent.minPurgeTimer = none → exec (.minPurgeExpiry z) s = .next s.closed)) ∧
  ∀ x : Zone, x.purgeEnded.vent.overlay = (if x.vent.blindPending then .blind else .none) ∧
    x.purgeEnded.vent.blindPending = false ∧ x.purgeEnded.vent.minPurgeTimer = none ∧
    x.purgeEnded.vent.durationTimer = none ∧ x.purgeEnded.vent.runOut = false ∧ x.purgeEnded.causes.purge = false

/-- Define Fan and Define Group (R127, R128, R137, R138): the short form with the defaults, the full form, and the
removal. The full form of Define Group carries every field of R138, 11 bytes: log entry 37. -/
def Obligations.FanAndGroupDefined : Prop :=
  (∀ (tag : Byte) (f : FanId) (zs : List ZoneId) (power low step safe : Nat) (s : State), s.link.waiting = none →
    s.part = .config → 1 ≤ zs.length → zs.length ≤ 24 → zs.Nodup → (∀ z ∈ zs, (s.zones.get z).isSome = true) →
    1 ≤ power → power ≤ 2000 →
    let new (low step safe : Nat) : Fan :=
      { served := zs, pRated := power, minSpeed := low, rampStep := step, safeSpeed := safe, state := .stopped
        reason := .none, target := 0, wanted := 0, command := 0, lastReport := none, startTimer := none
        stopTimer := none, ramp := none }
    let short := [byte f.val, byte zs.length] ++ (zs.map fun z : ZoneId => byte z.val) ++ bytes2 power
    exec (.defineFan tag short) s = .next ((s.setFan f (some (new 30 5 50))).answered tag (.done [])) ∧
    (20 ≤ low → low ≤ 60 → 1 ≤ step → step ≤ 20 → safe ≤ 100 →
      exec (.defineFan tag (short ++ [byte low, byte step, byte safe])) s =
        .next ((s.setFan f (some (new low step safe))).answered tag (.done [])))) ∧
  (∀ (tag : Byte) (g : GroupId) (z : ZoneId) (power base presence route hold fade tolerance : Nat) (s : State),
    s.link.waiting = none → s.part = .config → (s.zones.get z).isSome = true → 1 ≤ power → power ≤ 1000 →
    let new (base presence route hold fade tolerance : Nat) : Group :=
      { zone := z, pRated := power, baseLevel := base, presenceLevel := presence, routeLevel := route
        presenceHold := hold, fadeStep := fade, tolerance := tolerance
        forcedCmd := match s.groups.get g with
          | some old => old.forcedCmd
          | none => false
        presenceTimer := none, routeCount := 0, lamps := Vector.replicate 8 none, failedCount := 0
        degraded := false, state := .base, wanted := 0, commanded := 0, movement := .steady, fadeTimer := none }
    let short := [byte g.val, byte z.val] ++ bytes2 power
    exec (.defineGroup tag short) s = .next ((s.setGroup g (some (new 20 100 80 300 5 2))).answered tag (.done [])) ∧
    (5 ≤ base → base ≤ 50 → 5 ≤ presence → presence ≤ 100 → 5 ≤ route → route ≤ 100 → 30 ≤ hold → hold ≤ 1800 →
      1 ≤ fade → fade ≤ 20 → 1 ≤ tolerance → tolerance ≤ 8 →
      exec (.defineGroup tag (short ++ [byte base, byte presence, byte route] ++ bytes2 hold ++
          [byte fade, byte tolerance])) s =
        .next ((s.setGroup g (some (new base presence route hold fade tolerance))).answered tag (.done [])))) ∧
  (∀ (tag : Byte) (f : FanId) (s : State), s.link.waiting = none → s.part = .config →
    exec (.defineFan tag [byte f.val]) s = .next ((s.setFan f none).answered tag (.done []))) ∧
  ∀ (tag : Byte) (g : GroupId) (s : State), s.link.waiting = none → s.part = .config → s.routed g = false →
    exec (.defineGroup tag [byte g.val]) s = .next ((s.setGroup g none).answered tag (.done []))

/-- RAMP_TIMER_EXPIRY (R130, R131): where the conditions do not hold the ramp becomes IDLE. Where they hold a step is
taken, a step up as a request to the limiter and a step down as a reported fall that is served (R156; at that point of
the event: the model's reading, log entry 19), and, in an event that leaves the part state, the ramp is TIMING again
for 2 s, with a limit active or not. The command takes the step's value with no limit active; a step up with a limit
active gives it the limiter's grant, a class 1 request having shed first, and defers the fan with the step's value when
the grant falls short (R158, R159), in a state where UNVENTILATED stands as the fans have it and no other fan is due a
step of its own. A step down takes its value in the step itself, which the service after it leaves alone. And the
output record (R135): a fan's command that changes, in any event outside CONFIG, leaves the record of the FAN station
that binds the fan dirty: the enabled one with a channel bound to it (R127). The state that a change of command gives
is that of R132. An expiry of a ramp timer that is stopped changes nothing: the model's choice, log entry 4. The first
step of a ramp (R130): every step keeps the law of ramps, on the laws that StepKeepsDemandLaw and StepKeepsPurgeLaw
give: no fan with an IDLE ramp fulfils the conditions of a step, so its ramp has taken its first step in the event in
which they came to hold; a deferred value lies above its fan's command and at most at its wanted speed (R131, R160);
with no limit active no fan is deferred (R164). An IDLE ramp that fulfils the conditions steps as an expiry does, and a
ramp that was IDLE before an event and is TIMING after it has 2 s to run and, with no limit active, has taken the step
of R130 from the fan's command to its wanted speed. -/
def Obligations.RampSteps : Prop :=
  (∀ (x : Fan) (v : Nat), v ≠ x.command → x.stateOnCommand v = match x.state with
    | .stopped => if x.command = 0 then .starting else .stopped
    | .stopping => if x.command = 0 then .starting else .stopping
    | .starting => if v = 0 then .stopping else .starting
    | .running => if v = 0 then .stopping else .running
    | .fault => .fault
    | .lost => .lost) ∧
  (∀ (s : State) (f : FanId),
    let binds (i : StationId) (c : Fin 4) : Prop := (s.stations.get i).enabled = true ∧
      ∃ channels, (s.stations.get i).binding = .fan channels ∧ channels.get c = some f
    (s.fanStation f = none ↔ ∀ i c, ¬ binds i c) ∧
    ∀ i c, s.fanStation f = some (i, c) ↔ binds i c ∧ ∀ j d, binds j d → i < j ∨ (i = j ∧ c ≤ d)) ∧
  (∀ (f : FanId) (x : Fan) (d : Nat) (s : State), s.fans.get f = some x → x.ramp = some d →
    let s1 : State := { s with now := max s.now d }
    let may := x.due (s.supply.deferredFans.get f)
    (¬ may → exec (.rampTimerExpiry f) s = .next ((s1.setFan f (some { x with ramp := none })).closed)) ∧
    let e0 : Ev := (Ev.begin s1).updFan f fun y => { y with ramp := some (s1.now + 2000) }
    let increase := (fanPower x.pRated x.nextStep : Int) - fanPower x.pRated x.command
    let fits := s.limitActive = false ∨ increase ≤ s.headroom
    let e1 := if ¬ fits ∧ s.fanClass x = 1 then e0.shedTo ((s.supply.limit : Int) - increase) else e0
    let g := e1.s.fanGrant x x.command x.nextStep
    (may → ∃ t, exec (.rampTimerExpiry f) s = .next t ∧ Settles s1 t ∧
      (x.command < x.wanted → t = (e0.askFan f x.nextStep).finish s) ∧
      (x.wanted < x.command → t = (e0.setFanCommand f x.nextStep).serve.finish s) ∧
      (t.part = s.part → ∃ y, t.fans.get f = some y ∧ y.ramp = some (s1.now + 2000)) ∧
      (s.limitActive = false → x.nextStep ≠ x.command → t.part = s.part → ∃ y, t.fans.get f = some y ∧
        y.command = x.nextStep ∧ y.ramp = some (s1.now + 2000) ∧ y.state = x.stateOnCommand x.nextStep) ∧
      (x.command < x.wanted → t.part = s.part → VentilatedLaw s →
        (∀ k y, k ≠ f → s.fans.get k = some y → y.ramp = none → ¬ y.due (s.supply.deferredFans.get k)) →
        (∃ y, t.fans.get f = some y ∧ y.command = g ∧
          y.state = (if g = x.command then x.state else x.stateOnCommand g)) ∧
        t.supply.deferredFans.get f = if g < x.nextStep then some x.nextStep else none))) ∧
  (∀ (e : Ev) (f : FanId) (x : Fan), e.s.fans.get f = some x → x.wanted < x.command →
    e.s.supply.deferredFans.get f = none →
    ∃ y, (e.setFanCommand f x.nextStep).serve.s.fans.get f = some y ∧ y.command = x.nextStep) ∧
  (∀ (f : FanId) (s : State), (s.fans.get f).bind Fan.ramp = none → exec (.rampTimerExpiry f) s = .next s.closed) ∧
  (∀ x : Fan,
    (x.command = 0 → 0 < x.wanted → x.nextStep = x.minSpeed) ∧
    (0 < x.command → x.command < x.wanted → x.nextStep = min (x.command + x.rampStep) x.wanted) ∧
    (x.wanted < x.command → 0 < x.wanted → x.nextStep = max (x.command - x.rampStep) x.wanted) ∧
    (x.wanted = 0 → x.minSpeed < x.command → x.nextStep = max (x.command - x.rampStep) x.minSpeed) ∧
    (x.wanted = 0 → 0 < x.command → x.command = x.minSpeed → x.nextStep = 0)) ∧
  (∀ (e : Ev) (f : FanId) (x : Fan) (v : Nat) (i : StationId) (c : Fin 4), e.s.fans.get f = some x → v ≠ x.command →
    e.s.fanStation f = some (i, c) → ((e.setFanCommand f v).s.stations.get i).dirty = true) ∧
  (∀ (c : Instr) (f : FanId) (x y : Fan) (i : StationId) (ch : Fin 4) (s t : State), exec c s = .next t →
    t.part ≠ .config → s.fans.get f = some x → t.fans.get f = some y → y.command ≠ x.command →
    s.fanStation f = some (i, ch) → (t.stations.get i).dirty = true) ∧
  (∀ (e : Ev) (f : FanId) (x : Fan), e.s.fans.get f = some x →
    let first := x.ramp = none ∧ x.due (e.s.supply.deferredFans.get f)
    let timing := e.updFan f fun y => { y with ramp := some (e.s.now + 2000) }
    (¬ first → e.tryRamp f = e) ∧
    (first → x.command < x.wanted → e.tryRamp f = timing.askFan f x.nextStep) ∧
    (first → x.wanted < x.command → e.tryRamp f = (timing.setFanCommand f x.nextStep).serve)) ∧
  (∀ (c : Instr) (f : FanId) (x y : Fan) (d : Nat) (s t : State), exec c s = .next t → s.fans.get f = some x →
    x.ramp = none → t.fans.get f = some y → y.ramp = some d →
    d = t.now + 2000 ∧
    (s.limitActive = false → t.limitActive = false → s.supply.deferredFans.get f = none →
      y.command = ({ x with wanted := y.wanted } : Fan).nextStep)) ∧
  ∀ s t : State, DemandLaw s → FanLaw s → PurgeLaw s → ConfigRests s → SpeedLaw s → RampLaw s → step s = .next t →
    RampLaw t

/-- START_TIMER_EXPIRY, STOP_TIMER_EXPIRY and Clear Fan Fault (R132, R133): the fan enters FAULT with the timer's
reason and its command at 0, and FAN_FAULT tells the reason; a cleared fan is in FAULT no more. Expiries of stopped
timers change nothing: the model's choice, log entry 4. -/
def Obligations.FanFaults : Prop :=
  (∀ (f : FanId) (x : Fan) (d : Nat) (s : State), s.fans.get f = some x →
    let s1 : State := { s with now := max s.now d }
    (x.startTimer = some d → ∃ t, exec (.startTimerExpiry f) s = .next t ∧
      Settles (s1.setFan f (some { x with state := .fault, reason := .startTimeout })) t ∧
      (∃ y, t.fans.get f = some y ∧ y.command = 0 ∧ y.startTimer = none ∧ y.stopTimer = none) ∧
      t.supply.deferredFans.get f = none ∧ Told s t .fanFault f.val [1]) ∧
    (x.stopTimer = some d → ∃ t, exec (.stopTimerExpiry f) s = .next t ∧
      Settles (s1.setFan f (some { x with state := .fault, reason := .stopTimeout })) t ∧
      (∃ y, t.fans.get f = some y ∧ y.command = 0 ∧ y.startTimer = none ∧ y.stopTimer = none) ∧
      t.supply.deferredFans.get f = none ∧ Told s t .fanFault f.val [2])) ∧
  (∀ (f : FanId) (s : State),
    ((s.fans.get f).bind Fan.startTimer = none → exec (.startTimerExpiry f) s = .next s.closed) ∧
    ((s.fans.get f).bind Fan.stopTimer = none → exec (.stopTimerExpiry f) s = .next s.closed)) ∧
  ∀ (tag : Byte) (f : FanId) (x : Fan) (s : State), s.link.waiting = none → s.fans.get f = some x →
    x.lastReport ≠ some .tripped → s.fanStationLost f = false →
    (x.state = .fault → ∃ t, exec (.clearFanFault tag [byte f.val]) s = .next t ∧
      Settles (s.setFan f (some { x with state := .stopped, reason := .none })) t ∧ Replied s t tag (.done []) ∧
      ∃ y, t.fans.get f = some y ∧ y.state ≠ .fault ∧ y.reason = .none) ∧
    (x.state ≠ .fault → exec (.clearFanFault tag [byte f.val]) s = .next (s.answered tag (.done [])))

/-! ### Lighting -/

/-- Force Group, PRESENCE_TIMER_EXPIRY and FADE_TIMER_EXPIRY (R140, R142, R143, R144, R147). Outside CONFIG, in an
event that does not enter it, Force Group, on or off, and a presence expiry derive the group's state, and a FORCED
group wants 100; where UNVENTILATED stands as the fans have it, the wanted level is the one that the state and the
inputs give. In CONFIG Force Group sets the flag and no more. With no limit active a fade brings the level down by its
step. Every step keeps the law of derived groups: outside CONFIG every group's state and wanted level are those that
its inputs give, in CONFIG it stands at BASE with wanted level 0. It stands on the law of UNVENTILATED (R126), kept
too: every fan that serves the zone is in FAULT or LOST. And the output record (R151): a group's commanded level that
changes, in any event outside CONFIG, leaves the record of the LIGHT station that binds the group dirty: the enabled
one with a channel bound to it (R139). The group's driver is LOST while that station is, or outside CONFIG while there
is none (R139). Expiries of stopped timers change nothing: the model's choice, log entry 4. How a commanded level moves
(R145 to R147, R150): not at all while the driver is LOST; a rise is asked of the limiter, or reported to it as a new
deferred value; a fall begins a fade of 1 s steps, and one that runs goes on. And every step keeps the law of commanded
levels: a group with a driver that is not LOST is STEADY at its wanted level, RISING and deferred with its wanted level
below it, FADING with its fade timer running above it; with a driver that is LOST it is STEADY, also where it was FADING
(log entry 34), and not deferred. The law carries the one station a group has (R166) and the 0 of CONFIG, and that
with no limit active no group is deferred (R164). -/
def Obligations.GroupForcedAndTimers : Prop :=
  (∀ (s : State) (z : ZoneId), s.unventilated z = true ↔
    ∀ (f : FanId) (x : Fan), s.fans.get f = some x → z ∈ x.served → x.state = .fault ∨ x.state = .lost) ∧
  (∀ (s : State) (g : GroupId),
    let binds (i : StationId) : Prop := (s.stations.get i).enabled = true ∧
      ∃ channels motion, (s.stations.get i).binding = .light channels motion ∧ some g ∈ channels.toList
    (s.groupStation g = none ↔ ∀ i, ¬ binds i) ∧ (∀ i, s.groupStation g = some i ↔ Lowest binds i) ∧
    (s.driverLost g = true ↔ (∃ i, Lowest binds i ∧ (s.stations.get i).state = .lost) ∨
      ((∀ i, ¬ binds i) ∧ s.part ≠ .config))) ∧
  (∀ (tag : Byte) (g : GroupId) (x : Group) (on : Bool) (s : State), s.link.waiting = none →
    s.groups.get g = some x →
    ∃ t, exec (.forceGroup tag [byte g.val, flagByte on]) s = .next t ∧
      Settles (s.setGroup g (some { x with forcedCmd := on })) t ∧ Replied s t tag (.done []) ∧
      (s.part ≠ .config → t.part ≠ .config → ∃ y, t.groups.get g = some y ∧
        y.state = s.lightState { x with forcedCmd := on } ∧ (y.state = .forced → y.wanted = 100) ∧
        (VentilatedLaw s → y.routeCount = x.routeCount ∧ y.wanted = t.lightLevel y)) ∧
      (s.part = .config →
        t = (s.setGroup g (some { x with forcedCmd := on })).answered tag (.done []))) ∧
  (∀ (g : GroupId) (x : Group) (d : Nat) (s : State), s.groups.get g = some x → x.presenceTimer = some d →
    ∃ t, exec (.presenceTimerExpiry g) s = .next t ∧
      Settles (({ s with now := max s.now d } : State).setGroup g (some { x with presenceTimer := none })) t ∧
      (s.part ≠ .config → t.part ≠ .config → ∃ y, t.groups.get g = some y ∧
        y.state = s.lightState { x with presenceTimer := none } ∧ (y.state = .forced → y.wanted = 100) ∧
        (VentilatedLaw s → y.routeCount = x.routeCount ∧ y.wanted = t.lightLevel y))) ∧
  (∀ (g : GroupId) (x : Group) (d : Nat) (s : State), s.groups.get g = some x → x.fadeTimer = some d →
    let s1 : State := { s with now := max s.now d }
    let v := max x.wanted (x.commanded - x.fadeStep)
    ∃ t, exec (.fadeTimerExpiry g) s = .next t ∧ Settles s1 t ∧
      (s.limitActive = false → t.part = s.part → t.groups.get g = some
        (if v = x.wanted then { x with commanded := v, movement := .steady, fadeTimer := none }
         else { x with commanded := v, fadeTimer := some (s1.now + 1000) }))) ∧
  (∀ (g : GroupId) (s : State),
    ((s.groups.get g).bind Group.presenceTimer = none → exec (.presenceTimerExpiry g) s = .next s.closed) ∧
    ((s.groups.get g).bind Group.fadeTimer = none → exec (.fadeTimerExpiry g) s = .next s.closed)) ∧
  (∀ (e : Ev) (g : GroupId) (x : Group) (v : Nat) (i : StationId), e.s.groups.get g = some x → v ≠ x.commanded →
    e.s.groupStation g = some i → ((e.setGroupLevel g v).s.stations.get i).dirty = true) ∧
  (∀ (c : Instr) (g : GroupId) (x y : Group) (i : StationId) (s t : State), exec c s = .next t → t.part ≠ .config →
    s.groups.get g = some x → t.groups.get g = some y → y.commanded ≠ x.commanded →
    s.groupStation g = some i → (t.stations.get i).dirty = true) ∧
  (∀ (e : Ev) (g : GroupId) (x : Group), e.s.groups.get g = some x →
    let defer (s : State) (v : Option Nat) : State :=
      { s with supply := { s.supply with deferredGroups := put s.supply.deferredGroups g v } }
    let moved := (e.moveLevel g).s
    (e.s.driverLost g = true → e.moveLevel g = e) ∧
    (e.s.driverLost g = false →
      (x.commanded < x.wanted → e.s.supply.deferredGroups.get g = none → e.moveLevel g = e.askGroup g x.wanted) ∧
      (x.commanded < x.wanted → e.s.supply.deferredGroups.get g ≠ none → moved = defer e.s (some x.wanted)) ∧
      (x.commanded = x.wanted →
        moved = defer (e.s.setGroup g (some { x with movement := .steady, fadeTimer := none })) none) ∧
      (x.wanted < x.commanded → x.movement = .fading → e.moveLevel g = e) ∧
      (x.wanted < x.commanded → x.movement ≠ .fading → moved =
        defer (e.s.setGroup g (some { x with movement := .fading, fadeTimer := some (e.s.now + 1000) })) none))) ∧
  (∀ s t : State, LevelLaw s → step s = .next t → LevelLaw t) ∧
  ∀ s t : State, VentilatedLaw s → step s = .next t → VentilatedLaw t ∧ (GroupLaw s → GroupLaw t)

/-! ### The supply limit -/

/-- Set Supply and shedding (R154, R155, R162, R163, R164). The four settings are replaced in every part state; then
the deferred set is emptied by raises, or load is shed, or the set is served, and the reply carries the committed load
and the over-limit flag as they stand after these steps. When no limit is active any more, every member of the deferred
set takes its deferred value and leaves the set. Shedding lowers class 4 groups to the standby floor, then class 3 fans
to their minimum speeds and then to 0, each in falling number order, until the committed load is at the target or below
it; it ends above the target only with nothing left to shed. The over-limit flag is set, with SUPPLY_OVER, when a run
meant for the limit ends above it. That such a run raises SUPPLY_OVER also where the flag was set already is the
model's reading: log entry 18; that the set is served, as the last of the steps, whatever the headroom, is its reading
too: log entry 19. -/
def Obligations.SupplySet : Prop :=
  (∀ (tag : Byte) (standby : Bool) (limit base floor : Nat) (s : State), s.link.waiting = none →
    limit < 65536 → base < 65536 → floor ≤ 100 →
    let mode : SupplyMode := if standby then .standby else .mains
    let x : Supply := { s.supply with mode := mode, limit := limit, base := base, floor := floor }
    let s1 : State := { s with supply := x }
    let taken : Ev :=
      if s1.limitActive = false then (Ev.begin s1).raiseAll
      else if s1.headroom < 0 then (Ev.begin s1).shedToLimit
      else (Ev.begin s1).serveList s1.deferredOrder
    let above : Bool := taken.s.limitActive && decide (taken.s.headroom < 0)
    ∃ t, exec (.setSupply tag ([flagByte standby] ++ bytes2 limit ++ bytes2 base ++ [byte floor])) s = .next t ∧
      Settles s1 t ∧ Replied s t tag (.done (bytes3 taken.s.committed ++ [flagByte above])) ∧
      (standby = false → limit = 0 →
        above = false ∧ t.supply.overLimit = false ∧
        (∀ f : FanId, (s.fans.get f).isSome = true → t.supply.deferredFans.get f = none) ∧
        ∀ g : GroupId, (s.groups.get g).isSome = true → t.supply.deferredGroups.get g = none)) ∧
  (∀ (e : Ev) (f : FanId) (x : Fan) (w : Nat), e.s.fans.get f = some x → e.s.supply.deferredFans.get f = some w →
    e.raiseAll.s.supply.deferredFans.get f = none ∧ ∃ y, e.raiseAll.s.fans.get f = some y ∧ y.command = w) ∧
  (∀ (e : Ev) (g : GroupId) (x : Group) (w : Nat), e.s.groups.get g = some x →
    e.s.supply.deferredGroups.get g = some w →
    e.raiseAll.s.supply.deferredGroups.get g = none ∧
      ∃ y, e.raiseAll.s.groups.get g = some y ∧ y.commanded = w ∧ y.movement = .steady) ∧
  (∀ (e : Ev) (target : Int), e.shedTo target =
    (List.finRange 32).reverse.foldl (Ev.shedPass3 target) ((List.finRange 32).reverse.foldl (Ev.shedPass2 target)
      ((List.finRange 64).reverse.foldl (Ev.shedPass1 target) e))) ∧
  (∀ (e : Ev) (target : Int) (g : GroupId) (x : Group), e.s.groups.get g = some x →
    let sheds := target < e.s.committed ∧ x.priority = 4 ∧ e.s.supply.floor < x.commanded
    let t := (e.shedPass1 target g).s
    let kept := (e.s.supply.deferredGroups.get g).getD x.wanted
    (¬ sheds → e.shedPass1 target g = e) ∧
    (sheds → e.s.driverLost g = true → t.supply.deferredGroups.get g = e.s.supply.deferredGroups.get g ∧
      t.groups.get g = some { x with commanded := e.s.supply.floor }) ∧
    (sheds → e.s.driverLost g = false → e.s.supply.floor < x.wanted → t.supply.deferredGroups.get g = some kept ∧
      t.groups.get g = some { x with commanded := e.s.supply.floor, movement := .rising, fadeTimer := none }) ∧
    (sheds → e.s.driverLost g = false → x.wanted = e.s.supply.floor →
      t.supply.deferredGroups.get g = e.s.supply.deferredGroups.get g ∧
      t.groups.get g = some { x with commanded := e.s.supply.floor, movement := .steady, fadeTimer := none }) ∧
    (sheds → e.s.driverLost g = false → x.wanted < e.s.supply.floor →
      t.supply.deferredGroups.get g = e.s.supply.deferredGroups.get g ∧
      t.groups.get g = some { x with commanded := e.s.supply.floor })) ∧
  (∀ (e : Ev) (target : Int) (f : FanId) (x : Fan) (least : Bool), e.s.fans.get f = some x →
    let v := if least then x.minSpeed else 0
    let sheds := target < e.s.committed ∧ e.s.fanClass x = 3 ∧ v < x.command
    let shed := if least then e.shedPass2 target f else e.shedPass3 target f
    let kept := (e.s.supply.deferredFans.get f).getD x.wanted
    (¬ sheds → shed = e) ∧
    (sheds →
      (∃ y, shed.s.fans.get f = some y ∧ y.command = v ∧ y.wanted = x.wanted ∧ y.state = x.stateOnCommand v) ∧
      shed.s.supply.deferredFans.get f =
        if x.state = .lost ∨ x.wanted ≤ v then e.s.supply.deferredFans.get f else some kept)) ∧
  (∀ (e : Ev) (target : Int),
    let t := (e.shedTo target).s
    t.committed ≤ e.s.committed ∧
    (target < t.committed →
      (∀ g x, t.groups.get g = some x → x.priority = 4 → x.commanded ≤ t.supply.floor) ∧
      ∀ f x, t.fans.get f = some x → t.fanClass x = 3 → x.command = 0)) ∧
  ∀ e : Ev,
    let e1 := e.shedTo e.s.supply.limit
    ((e1.s.committed : Int) ≤ e1.s.supply.limit → e.shedToLimit = e1) ∧
    ((e1.s.supply.limit : Int) < e1.s.committed → e.shedToLimit =
      ({ e1 with s := { e1.s with supply := { e1.s.supply with overLimit := true } } } : Ev).raise .supplyOver 0
        (bytes3 e1.s.committed ++ bytes2 e1.s.supply.limit))

/-- Loads, classes, grants and powers (R156, R157, R158): the power of a fan and of a group, their loads, the committed
load and the classes; with no limit active, or with the headroom for the whole increase, a grant is whole; otherwise it
is the largest value whose increase fits the headroom, but for a fan at 0 below its minimum speed and a group at BASE
below the standby floor. A short grant defers the asker with the value asked; a class 1 request sheds its shortfall
first (R159). The deferred set is served in the order of R160: each member is raised toward its deferred value as R158
step 2 gives, by the largest value that fits and with the minimum speed and floor rules whether or not the whole raise
fits, and the first that does not reach it ends the service (R161), which never takes more than the headroom. Every
step keeps the law of the supply limit (R163): the over-limit flag is set exactly while a limit is active and exceeded,
and then every class 3 fan is at 0 and every class 4 group at or below the standby floor; it stands on the law of the
plant, kept too. -/
def Obligations.GrantsFitTheHeadroom : Prop :=
  (∀ pRated v : Nat,
    pRated * v ^ 3 ≤ 1000000 * fanPower pRated v ∧ 1000000 * fanPower pRated v < pRated * v ^ 3 + 1000000 ∧
    pRated * v ≤ 100 * groupPower pRated v ∧ 100 * groupPower pRated v < pRated * v + 100) ∧
  ((∀ x : Fan, x.load = if x.state = .stopped ∨ x.state = .fault then 0 else fanPower x.pRated x.command) ∧
    (∀ x : Group, x.load = groupPower x.pRated x.commanded) ∧
    ∀ s : State, s.committed = s.supply.base +
      ((List.finRange 32).map fun f => ((s.fans.get f).map Fan.load).getD 0).sum +
      ((List.finRange 64).map fun g => ((s.groups.get g).map Group.load).getD 0).sum) ∧
  ((∀ (s : State) (x : Fan), (s.fanClass x = 1 ∨ s.fanClass x = 3) ∧
      (s.fanClass x = 1 ↔ ∃ z ∈ x.served, ∃ y c, s.zones.get z = some y ∧ y.vent.overlay = .purge c)) ∧
    ∀ x : Group, x.priority = if x.state = .forced then 2 else 4) ∧
  (∀ (load : Nat → Nat) (c : Nat) (room : Int) (n : Nat),
    let g := largestFit load c room n
    c ≤ g ∧ g ≤ c + n ∧ (g = c ∨ (load g : Int) - load c ≤ room) ∧
      ∀ v, g < v → v ≤ c + n → room < (load v : Int) - load c) ∧
  (∀ (s : State) (x : Fan) (c w : Nat), c ≤ w →
    let load := fanPower x.pRated
    let g := largestFit load c s.headroom (w - c)
    s.fanFit x c w = (if c = 0 ∧ g < x.minSpeed then 0 else g) ∧
    (s.limitActive = false ∨ (load w : Int) - load c ≤ s.headroom → s.fanGrant x c w = w) ∧
    (s.limitActive = true → s.headroom < (load w : Int) - load c → s.fanGrant x c w = s.fanFit x c w)) ∧
  (∀ (s : State) (x : Group) (c w : Nat), c ≤ w →
    let load := groupPower x.pRated
    let g := largestFit load c s.headroom (w - c)
    s.groupFit x c w = (if x.state = .base ∧ g < s.supply.floor then c else g) ∧
    (s.limitActive = false ∨ (load w : Int) - load c ≤ s.headroom → s.groupGrant x c w = w) ∧
    (s.limitActive = true → s.headroom < (load w : Int) - load c → s.groupGrant x c w = s.groupFit x c w)) ∧
  (∀ s : State, s.headroom = (s.supply.limit : Int) - s.committed ∧
    (s.limitActive = true ↔ s.supply.mode = .standby ∨ 0 < s.supply.limit)) ∧
  (∀ (e : Ev) (f : FanId) (x : Fan) (w : Nat), e.s.fans.get f = some x →
    let increase := (fanPower x.pRated w : Int) - fanPower x.pRated x.command
    let fits := e.s.limitActive = false ∨ increase ≤ e.s.headroom
    let e1 := if ¬ fits ∧ e.s.fanClass x = 1 then e.shedTo ((e.s.supply.limit : Int) - increase) else e
    let g := e1.s.fanGrant x x.command w
    let t := (e.askFan f w).s
    (∃ y, t.fans.get f = some y ∧ y.command = g ∧ y.wanted = x.wanted) ∧
    t.supply.deferredFans.get f = if g < w then some w else none) ∧
  (∀ (e : Ev) (g : GroupId) (x : Group) (w : Nat), e.s.groups.get g = some x →
    let v := e.s.groupGrant x x.commanded w
    let t := (e.askGroup g w).s
    t.groups.get g = some
      { x with commanded := v, movement := if v < w then .rising else .steady, fadeTimer := none } ∧
    t.supply.deferredGroups.get g = if v < w then some w else none) ∧
  (∀ s : State,
    let rank : Member → Nat × Nat
      | .fan f => (match s.fans.get f with
        | some x => s.fanClass x
        | none => 0, f.val)
      | .group g => (match s.groups.get g with
        | some x => x.priority
        | none => 0, g.val)
    (∀ f, .fan f ∈ s.deferredOrder ↔
      (s.fans.get f).isSome = true ∧ (s.supply.deferredFans.get f).isSome = true) ∧
    (∀ g, .group g ∈ s.deferredOrder ↔
      (s.groups.get g).isSome = true ∧ (s.supply.deferredGroups.get g).isSome = true) ∧
    s.deferredOrder.Pairwise fun m n => (rank m).1 < (rank n).1 ∨ ((rank m).1 = (rank n).1 ∧ (rank m).2 < (rank n).2)) ∧
  (∀ e : Ev,
    (e.s.limitActive = true → 0 < e.s.headroom → e.serve = e.serveList e.s.deferredOrder) ∧
    (e.s.limitActive = false ∨ e.s.headroom ≤ 0 → e.serve = e)) ∧
  (∀ (e : Ev) (f : FanId) (x : Fan) (w : Nat) (rest : List Member), e.s.fans.get f = some x →
    e.s.supply.deferredFans.get f = some w →
    let v := e.s.fanFit x x.command w
    ∃ e1 : Ev, e.serveList (.fan f :: rest) = (if v = w then e1.serveList rest else e1) ∧
      (∃ y, e1.s.fans.get f = some y ∧ y.command = v) ∧
      e1.s.supply.deferredFans.get f = (if v = w then none else some w) ∧
      (∀ k, k ≠ f → e1.s.fans.get k = e.s.fans.get k ∧
        e1.s.supply.deferredFans.get k = e.s.supply.deferredFans.get k) ∧
      e1.s.supply.deferredGroups = e.s.supply.deferredGroups ∧
      ∀ k, (e1.s.groups.get k).map Group.commanded = (e.s.groups.get k).map Group.commanded) ∧
  (∀ (e : Ev) (g : GroupId) (x : Group) (w : Nat) (rest : List Member), e.s.groups.get g = some x →
    e.s.supply.deferredGroups.get g = some w →
    let v := e.s.groupFit x x.commanded w
    ∃ e1 : Ev, e.serveList (.group g :: rest) = (if v = w then e1.serveList rest else e1) ∧
      e1.s.groups.get g = some { x with commanded := v, movement := if v = w then .steady else x.movement } ∧
      e1.s.supply.deferredGroups.get g = (if v = w then none else some w) ∧
      (∀ k, k ≠ g → e1.s.groups.get k = e.s.groups.get k ∧
        e1.s.supply.deferredGroups.get k = e.s.supply.deferredGroups.get k) ∧
      e1.s.fans = e.s.fans ∧ e1.s.supply.deferredFans = e.s.supply.deferredFans) ∧
  (∀ (e : Ev) (l : List Member), e.s.limitActive = true → 0 ≤ e.s.headroom → 0 ≤ (e.serveList l).s.headroom) ∧
  ∀ s t : State, PlantLaw s → step s = .next t → PlantLaw t ∧ (SupplyLaw s → SupplyLaw t)

/-! ### The Field Loop -/

/-- Define Station and Define Segment (R30, R166, R167): the entry is replaced with its values of CONFIG, the inputs of
a BAY entry are taken from and given to their bays; the segment's bit rate is written. A request that spells an entry
of any kind is accepted in CONFIG when its line address is within 1 to 63 and of no other entry of the segment, no
CONFLICT of R166 keeps the entry from its bindings, and no running loop test has the entry as its target. The inputs of
an enabled BAY entry give or take the primary input state of the bay at their address, and the secondary one of the bay
that the alias at their address targets, and change nothing else (R29, R30). That a removal is judged for its line
address like every entry is the model's reading: log entry 14. -/
def Obligations.StationAndSegmentDefined : Prop :=
  (∀ (s : State) (x : Station) (v : Option Occ), BindingLaw s →
    let bound (a : Addr) : Prop := x.enabled = true ∧ ∃ inputs, x.binding = .bay inputs ∧ some a ∈ inputs.toList
    let t := s.bindInputs x v
    t = { s with tables := t.tables } ∧
    (∀ a, (∀ b, s.stage a ≠ .slot (.bay b)) → t.stage a = s.stage a) ∧
    ∀ (a : Addr) (b : Bay), s.stage a = .slot (.bay b) → ∃ p q,
      t.stage a = .slot (.bay { b with primary := p, secondary := q }) ∧
      (bound a → p = v) ∧ (¬ bound a → p = b.primary) ∧
      ((∃ c, s.stage c = .slot (.aliasTo a) ∧ bound c) → q = v) ∧
      ((∀ c, s.stage c = .slot (.aliasTo a) → ¬ bound c) → q = b.secondary)) ∧
  (∀ (s : State) (i : StationId), s.underTest i = true ↔ ∃ (g : Seg) (r : TestRecord),
    (s.segments.get g).testRunning = true ∧ (s.segments.get g).test = some r ∧ r.station = i) ∧
  (∀ (tag : Byte) (i : StationId) (p : List Byte) (s : State), s.link.waiting = none → u8 p 0 = i.val + 1 →
    (defineStationRequest p (Ev.begin s)).1 = .done [] →
    let new := stationOf p
    exec (.defineStation tag p) s = .next
      ((((s.bindInputs (s.stations.get i) none).setStation i new).bindInputs new (some .unknown)).answered tag (.done [])) ∧
    s.part = .config ∧
    (u8 p 1 = 0 → new.binding = .none ∧ new.enabled = false ∧ new.state = .disabled) ∧
    (u8 p 1 ≠ 0 → new.binding = bindingOf p ∧ new.enabled = (u8 p 2 != 0) ∧ new.segment.val = u8 p 3 ∧
      new.lineAddress = u8 p 4 ∧ new.state = (if u8 p 2 = 0 then .disabled else .active)) ∧
    new.firstHad = false ∧ new.misses = 0 ∧ new.staleTimer = none ∧ new.probeTimer = none ∧
      new.lastEvent = none ∧ new.dirty = false ∧ new.reading = ⟨false, 0, 0, .fault, false⟩) ∧
  (∀ (tag : Byte) (i : StationId) (b : Binding) (on : Byte) (g : Seg) (line : Nat) (s : State), s.link.waiting = none →
    s.part = .config → 1 ≤ line → line ≤ 63 →
    (∀ j : StationId, j ≠ i → (s.stations.get j).binding ≠ .none → (s.stations.get j).segment = g →
      (s.stations.get j).lineAddress ≠ line) →
    s.mayBind i b → s.underTest i = false →
    let p : List Byte := [byte (i.val + 1), b.spelled.1, on, byte g.val, byte line] ++ b.spelled.2
    let new := if b = .none then Station.reset else Station.configured b (on != 0) g line
    stationOf p = new ∧
    exec (.defineStation tag p) s = .next
      ((((s.bindInputs (s.stations.get i) none).setStation i new).bindInputs new (some .unknown)).answered tag (.done []))) ∧
  ∀ (tag : Byte) (g : Seg) (rate : FieldRate) (s : State), s.link.waiting = none → s.part = .config →
    (s.segments.get g).testRunning = false →
    exec (.defineSegment tag [byte g.val, byte rate.code]) s = .next
      ((s.setSegment g { s.segments.get g with rate := rate }).answered tag (.done []))

/-- Set Segment Mode (R168, R171, R174, R178): any exchange in hand is abandoned, and a running test is aborted with
its record kept and TEST_DONE raised. In RUN the schedule starts before the lowest station number with no ordinary poll
counted, no lane round in progress and no station last commanded (R174), and the segment chooses its first exchange from
there, as after no poll: StationTimers says what a segment chooses; an exchange begins while a station that is not LOST
can be polled. In DISABLED every enabled station of the segment becomes LOST, and STATION_STATE tells each with the cause DISABLED. The
present mode changes nothing. -/
def Obligations.SegmentModeSet : Prop :=
  ∀ (tag : Byte) (g : Seg) (s : State), s.link.waiting = none → s.running = true →
    let x := s.segments.get g
    let y (m : SegmentMode) : Segment :=
      { x with
        mode := m, exchange := none, testRunning := if x.test.isSome then false else x.testRunning
        test := if x.testRunning then x.test.map fun r => { r with outcome := .aborted } else x.test }
    let aborted (t : State) : Prop := ∀ r, x.test = some r → x.testRunning = true → Told s t .testDone g.val
      ([2] ++ bytes2 r.sent ++ bytes2 r.returned ++ [byte r.byteErrors, byte r.timeouts])
    (∀ m, x.mode = m → exec (.setSegmentMode tag [byte g.val, byte m.code]) s = .next (s.answered tag (.done []))) ∧
    (x.mode ≠ .quiet → ∃ t, exec (.setSegmentMode tag [byte g.val, 1]) s = .next t ∧
      Settles (s.setSegment g (y .quiet)) t ∧ Replied s t tag (.done []) ∧ (t.segments.get g).exchange = none ∧
      aborted t) ∧
    (x.mode ≠ .run → ∃ t, exec (.setSegmentMode tag [byte g.val, 0]) s = .next t ∧
      Settles (s.setSegment g (y .run)) t ∧ Replied s t tag (.done []) ∧ aborted t ∧
      (let chosen := (s.setSegment g { y .run with
          pollPos := 0, pollCount := 0, round := none, lastCommanded := 0 }).choose g false
       t.segments.get g = chosen.segments.get g ∧ t.stations = chosen.stations) ∧
      ((∃ i : StationId, (s.stations.get i).onSegment g = true ∧ (s.stations.get i).state ≠ .lost) →
        (t.segments.get g).exchange.isSome = true)) ∧
    (x.mode ≠ .disabled → ∃ t, exec (.setSegmentMode tag [byte g.val, 2]) s = .next t ∧ Replied s t tag (.done []) ∧
      (t.segments.get g).mode = .disabled ∧ (t.segments.get g).exchange = none ∧
      (t.segments.get g).essence = (y .disabled).essence ∧ aborted t ∧
      (∀ i : StationId, (s.stations.get i).onSegment g = true → (s.stations.get i).state ≠ .lost →
        Told s t .stationState (stationNumber i) [3, 3]) ∧
      (∀ i : StationId, (s.stations.get i).onSegment g = true → (t.stations.get i).state = .lost) ∧
      (∀ i : StationId, (s.stations.get i).onSegment g = false →
        (t.stations.get i).essence = (s.stations.get i).essence) ∧
      (∀ h : Seg, h ≠ g → (t.segments.get h).essence = (s.segments.get h).essence) ∧
      t.windows = s.windows ∧ t.cursor = s.cursor ∧ t.routes = s.routes ∧ t.recount = s.recount ∧ t.now = s.now)

/-- Begin Loop Test, Abort Loop Test, Read Loop Result and Read Segment Errors (R176 to R179): a test begins with its
first frame sent; an abort ends it with TEST_DONE; a read of the errors clears them. The first three bytes of every
PRBS test are 2, 12 and 40; each is made of eight successive bits, of which each is the exclusive OR of stages 7 and 6
of the register, shifted in at stage 1 (R177). Read Loop Result without a record answers 13 bytes of 0. That a test's
first frame counts as sent at once is the model's reading: log entry 21. The capture's bytes stand in the layout of
section 10.7; an absent capture leaves two bytes of the report free: log entry 6. -/
def Obligations.LoopTestRequests : Prop :=
  (∀ (n : Nat) (r : BitVec 7),
    let next (r : BitVec 7) : BitVec 7 := (r <<< 1) ||| if r.getLsbD 6 != r.getLsbD 5 then 1 else 0
    (prbsBytes n r).1 = next^[8 * n] r ∧
    (prbsBytes n r).2 = (List.range n).map fun j => (List.range 8).foldl
      (fun acc k => (acc <<< 1) ||| if (next^[8 * j + k + 1] r).getLsbD 0 then 1 else 0) 0) ∧
  (∀ (s : State) (c : Capture), c.bytes.length ≤ 4 → captureBytes s (some c) =
    [1, byte (c.station.val + 1), match c.kind with
      | .parity => 1
      | .framing => 2
      | .check => 3
      | .length => 4, byte c.bytes.length] ++ c.bytes ++ List.replicate (4 - c.bytes.length) 0) ∧
  (∀ s : State, captureBytes s none = [0, s.freeByte 0, s.freeByte 1, 0, 0, 0, 0, 0]) ∧
  (∀ (tag : Byte) (g : Seg) (i : StationId) (n : Nat) (fixed : Option (List Byte)) (s : State),
    s.link.waiting = none → 1 ≤ n → n ≤ 4000 → (∀ bs, fixed = some bs → bs.length = 16) →
    s.part = .config ∨ (s.running = true ∧ (s.segments.get g).mode = .quiet) →
    (s.stations.get i).enabled = true → (s.stations.get i).segment = g → (s.segments.get g).testRunning = false →
    let sent : List Byte := match fixed with
      | none => (prbsBytes 16 (BitVec.allOnes 7)).2
      | some bs => bs
    let register := match fixed with
      | none => (prbsBytes 16 (BitVec.allOnes 7)).1
      | some _ => BitVec.allOnes 7
    let record : TestRecord :=
      { station := i
        pattern := match fixed with
          | none => .prbs
          | some bs => .fixed bs
        frameCount := n, sent := 1, returned := 0, byteErrors := 0, timeouts := 0, outcome := .running }
    exec (.beginLoopTest tag ([byte g.val, byte (i.val + 1), flagByte fixed.isSome] ++ bytes2 n ++ fixed.getD [])) s =
      .next ((s.setSegment g { s.segments.get g with
        testRunning := true, prbs := register, test := some record
        exchange := some ⟨.test, i, sent, none⟩ }).answered tag .accepted)) ∧
  (prbsBytes 16 (BitVec.allOnes 7)).2.take 3 = [2, 12, 40] ∧
  (∀ (tag : Byte) (g : Seg) (s : State), s.link.waiting = none → (s.segments.get g).test = none →
    exec (.readLoopResult tag [byte g.val]) s = .next (s.answered tag (.done (List.replicate 13 0)))) ∧
  (∀ (tag : Byte) (g : Seg) (s : State), s.link.waiting = none →
    ((s.segments.get g).testRunning = false ∨ (s.segments.get g).test = none →
      exec (.abortLoopTest tag [byte g.val]) s = .next (s.answered tag (.done []))) ∧
    ∀ r, (s.segments.get g).testRunning = true → (s.segments.get g).test = some r →
      let ended := s.setSegment g { s.segments.get g with
        testRunning := false, exchange := none, test := some { r with outcome := .aborted } }
      exec (.abortLoopTest tag [byte g.val]) s = .next
        ((((Ev.begin ended).raise .testDone g.val
          ([2] ++ bytes2 r.sent ++ bytes2 r.returned ++ [byte r.byteErrors, byte r.timeouts])).queueReply tag
            (.done [])).close)) ∧
  ∀ (tag : Byte) (g : Seg) (s : State), s.link.waiting = none →
    let x := s.segments.get g
    exec (.readSegmentErrors tag [byte g.val]) s = .next
      (({ s.setSegment g { x with errors := 0, capture := none } with draws := s.draws + 1 } : State).answered tag
        (.done ([byte x.rate.code, byte x.mode.code, byte x.errors] ++ captureBytes s x.capture)))

/-- The frames of a loop test (R177): an echo counts as returned with its differing bytes, anything else as a missing
echo, a line error in the segment's own counter too; the next frame is sent in the same event, and the last one ends
the test as DONE with TEST_DONE. No station is touched. That a frame counts as sent as its sending begins is the
model's reading: log entry 21. -/
def Obligations.LoopTestFrames : Prop :=
  ∀ (g : Seg) (i : StationId) (sent : List Byte) (d : Nat) (r : TestRecord) (s : State),
    let x := s.segments.get g
    x.exchange = some ⟨.test, i, sent, some d⟩ → x.test = some r →
    let after (s : State) (r' : TestRecord) : State :=
      if r'.sent < r'.frameCount then (s.updSegment g fun y => y.sendTest r').closed
      else ((Ev.begin (s.updSegment g fun y =>
          { y with testRunning := false, exchange := none, test := some { r' with outcome := .done } })).raise .testDone
        g.val ([1] ++ bytes2 r'.sent ++ bytes2 r'.returned ++ [byte r'.byteErrors, byte r'.timeouts])).close
    let missing : TestRecord := { r with timeouts := min 255 (r.timeouts + 1) }
    (∀ payload : List Byte, exec (.fieldGoodReply g payload) s = .next (after s { r with
      returned := r.returned + 1
      byteErrors := min 255 (r.byteErrors +
        ((List.range sent.length).filter fun k => payload[k]? != sent[k]?).length) })) ∧
    exec (.fieldTimeout g) s = .next (after { s with now := max s.now d } missing) ∧
    (∀ (k : LineErrorKind) (received : List Byte),
      let counted := s.updSegment g fun y =>
        { y with
          errors := min 255 (y.errors + 1)
          capture := match y.capture with
            | some c => some c
            | none => some ⟨i, k, received.take 4⟩ }
      exec (.fieldLineError g k received) s = .next (after counted missing) ∧
      (k = .length → exec (.fieldByteGap g received) s = .next (after counted missing))) ∧
    (∀ (y : Segment) (r' : TestRecord) (bs : List Byte), r'.pattern = .fixed bs →
      (y.testBytes r').2 = bs ∧ (y.sendTest r').prbs = y.prbs) ∧
    (∀ (y : Segment) (r' : TestRecord), r'.pattern = .prbs →
      (y.testBytes r').2 = (prbsBytes 16 y.prbs).2 ∧ (y.sendTest r').prbs = (prbsBytes 16 y.prbs).1) ∧
    ∀ y : Segment, ∀ r' : TestRecord, (y.sendTest r').test = some { r' with sent := r'.sent + 1 } ∧
      (y.sendTest r').exchange = some ⟨.test, r'.station, (y.testBytes r').2, none⟩

/-- FIELD_FRAME_SENT and FIELD_GOOD_REPLY (R31, R84, R92, R96, R121, R132, R133, R134, R140, R149, R169, R170, R172,
R173, R175): a request frame sent opens the 8 ms window; a good reply makes its station ACTIVE with its miss count 0
and its staleness timer restarted, and its content goes to its owner. A GAS reading is recorded, and one at a peak
level puts the zone into GAS purge; a BAY report writes the input states and the occupancies of its bays alone, an
input at a BAY being its primary one, at an ALIAS the target's secondary one, and anywhere else none (R29); a LANE
event of a new number is taken and its number kept (R53 to R57): an ARRIVE joins the queue and is assigned at once as
its head, one with 4 waiting is dropped with LANE_OVERFLOW, a PASS takes the head off, its hold kept and its zone sent
one movement event, a BACKOUT takes it off and releases its hold, and a PASS of an EXIT lane sends each of its zones
one movement event; a FAN report is recorded and moves its fan, channel by channel (the channels' order is the model's
choice: log entry 39; no other return of a LOST fan: log entry 15); a LIGHT report writes lamps and presence (bit 0 for
channel or input 0: the model's choice, log entry 49); a SIGN report is taken. An acknowledged command leaves a SIGN
update in flight and its panel BUSY, and clears the dirty flag of another record that still holds what was sent, also
where its owner wrote another value in between (the model's choice: log entry 50). A return from LOST is told by
STATION_STATE, a GAS purge by ZONE_ALARM, a fault by FAN_FAULT, a changed count of failed lamps by LAMP_FAULT. A reply
whose length or values do not fit its kind (the VL byte of a LANE event: log entry 29) ends as a line error of kind
LENGTH or CHECK does (R169); the bytes captured are the model's reading, log entry 30. With no window open a reply
changes nothing: the model's choice, log entry 4. -/
def Obligations.GoodReplyTaken : Prop :=
  (∀ (g : Seg) (k : ExchangeKind) (i : StationId) (sent : List Byte) (s : State),
    (s.segments.get g).exchange = some ⟨k, i, sent, none⟩ →
    exec (.fieldFrameSent g) s = .next ((s.setSegment g { s.segments.get g with
      exchange := some ⟨k, i, sent, some (s.now + 8)⟩ }).closed)) ∧
  (∀ (g : Seg) (payload : List Byte) (s : State), s.openExchange g = none →
    exec (.fieldGoodReply g payload) s = .next s.closed) ∧
  (∀ (s : State) (a : Addr),
    (∀ b, s.stage a = .slot (.bay b) → s.inputBay a = some (a, false)) ∧
    (∀ t, s.stage a = .slot (.aliasTo t) → s.inputBay a = some (t, true)) ∧
    ((∀ b, s.stage a ≠ .slot (.bay b)) → (∀ t, s.stage a ≠ .slot (.aliasTo t)) → s.inputBay a = none)) ∧
  (∀ (e : Ev) (f : FanId) (x : Fan) (r : DriveReport), e.s.fans.get f = some x →
    let told : Fan := { x with lastReport := some r }
    let faulted (why : FaultReason) : Fan := { told with
      state := .fault, reason := why, command := 0, startTimer := none, stopTimer := none, ramp := none }
    let entered (st : FanState) : Fan := { told with
      state := st, startTimer := if st = .starting then some (e.s.now + 30000) else none
      stopTimer := if st = .stopping then some (e.s.now + 60000) else none }
    (e.fanReport f r).s.fans.get f = some
      (match x.state, r with
        | .fault, .tripped => if x.reason = .trip then told else faulted .trip
        | _, .tripped => faulted .trip
        | .stopped, .running => entered .stopping
        | .starting, .running => entered .running
        | .running, .stopped => faulted .uncommandedStop
        | .stopping, .stopped => entered .stopped
        | .lost, .stopped => entered (if x.command = 0 then .stopped else .starting)
        | .lost, .running => entered (if x.command = 0 then .stopping else .running)
        | _, _ => told)) ∧
  (∀ (e : Ev) (i : StationId) (sent : List Byte), (∀ p, (e.s.stations.get i).binding ≠ .sign p) →
    (e.acknowledged i sent).s = e.s.setStation i { e.s.stations.get i with
      dirty := (e.s.stations.get i).dirty && e.s.recordContent (e.s.stations.get i).binding != sent }) ∧
  (∀ (e : Ev) (l : LaneId) (vl : AccessLevel),
    let lane := e.s.lanes.get l
    let moved (s : State) (zs : List ZoneId) : State :=
      { s with
        zones := Vector.ofFn fun z : ZoneId => (s.zones.get z).map fun y =>
          if z ∈ zs then { y with vent := { y.vent with e := min 255 (y.vent.e + 1) } } else y }
    (lane.direction = .entry →
      (lane.queue = [] → e.laneEvent l 2 vl = e ∧ e.laneEvent l 3 vl = e) ∧
      (lane.queue.length < 4 →
        (e.laneEvent l 1 vl).s =
          e.s.setLane l { lane with queue := lane.queue ++ [⟨vl, max vl lane.lc, .waiting⟩] } ∧
        (lane.queue = [] → l ∈ (e.laneEvent l 1 vl).assign)) ∧
      (4 ≤ lane.queue.length → e.laneEvent l 1 vl = e.raise .laneOverflow l.val [byte vl.val]) ∧
      ∀ head rest, lane.queue = head :: rest →
        let left := e.s.setLane l { lane with queue := rest }
        (e.laneEvent l 2 vl).s = (match head.state with
          | .assigned z _ _ => moved left [z]
          | _ => left) ∧
        (∀ z b id, head.state = .assigned z b id →
          (e.laneEvent l 3 vl).s = ((Ev.begin left).release id).s ∧ (e.laneEvent l 3 vl).s.holds.get id = none ∧
            (e.laneEvent l 3 vl).retry = true) ∧
        ((∀ z b id, head.state ≠ .assigned z b id) → (e.laneEvent l 3 vl).s = left) ∧
        (rest ≠ [] → l ∈ (e.laneEvent l 2 vl).assign ∧ l ∈ (e.laneEvent l 3 vl).assign)) ∧
    (lane.direction = .exit →
      (lane.movement.Nodup → (e.laneEvent l 2 vl).s = moved e.s lane.movement) ∧
      e.laneEvent l 1 vl = e ∧ e.laneEvent l 3 vl = e) ∧
    (lane.direction = .none → ∀ kind : Nat, e.laneEvent l kind vl = e)) ∧
  (∀ (x : Exchange) (b : Binding) (payload : List Byte),
    let n := payload.length
    let lengthFits : Prop := match b with
      | .none => False
      | .gas _ => n = 5
      | .bay _ => n = 16
      | .lane _ => n = 0 ∨ n = 3
      | .fan _ => n = 4
      | .light _ _ => n = 2
      | .sign _ => n = 2
    let valuesFit : Prop := match b with
      | .bay _ => ∀ v ∈ payload, v.toNat ≤ 3
      | .lane _ => payload = [] ∨
          (1 ≤ u8 payload 0 ∧ u8 payload 0 ≤ 3 ∧ (u8 payload 2 ≤ 3 ∨ u8 payload 2 = 255))
      | .fan _ => ∀ v ∈ payload, v.toNat ≤ 2
      | .sign _ => u8 payload 0 ≤ 1
      | _ => True
    (x.kind = .command → x.fault b payload = if payload = [] then none else some .length) ∧
    (x.kind = .poll ∨ x.kind = .probe →
      (¬ lengthFits → x.fault b payload = some .length) ∧
      (lengthFits → ¬ valuesFit → x.fault b payload = some .check) ∧
      (lengthFits → valuesFit → x.fault b payload = none))) ∧
  (∀ (g : Seg) (x : Exchange) (d : Nat) (k : LineErrorKind) (payload : List Byte) (s : State),
    s.openExchange g = some (x, d) → x.fault (s.stations.get x.station).binding payload = some k →
    exec (.fieldGoodReply g payload) s = exec (.fieldLineError g k
      ([byte (s.stations.get x.station).lineAddress, byte x.kind.code, byte payload.length] ++
        if k = .check then payload.take 1 else [])) s) ∧
  ∀ (g : Seg) (x : Exchange) (d : Nat) (payload : List Byte) (s : State), s.openExchange g = some (x, d) →
    x.kind ≠ .test → x.fault (s.stations.get x.station).binding payload = none →
    let old := s.stations.get x.station
    let lost : Bool := old.state == .lost
    let st : Station := { old with
      state := .active, misses := 0, firstHad := true, staleTimer := some (s.now + 30000)
      probeTimer := if lost then none else old.probeTimer }
    let answered : State := s.setStation x.station st
    ∃ t, exec (.fieldGoodReply g payload) s = .next t ∧
      (t.part ≠ .config →
        (t.stations.get x.station).state = .active ∧ (t.stations.get x.station).misses = 0 ∧
        (t.stations.get x.station).firstHad = true ∧
        (t.stations.get x.station).staleTimer = some (s.now + 30000) ∧
        (∀ i : StationId, i ≠ x.station → (t.stations.get i).essence = (s.stations.get i).essence)) ∧
      (old.state = .lost → Told s t .stationState (stationNumber x.station) [1, 0]) ∧
      ((∀ p, old.binding ≠ .sign p) → x.kind = .command → SettlesOrStarts answered t) ∧
      (∀ p, old.binding = .sign p → x.kind = .command →
        SettlesOrStarts (answered.updPanel p fun y => { if lost then y.returned else y with lastReport := .busy }) t ∧
        (t.part ≠ .config → (t.panels.get p).inFlight = (s.panels.get p).inFlight)) ∧
      (∀ z, old.binding = .gas z → x.kind ≠ .command →
        let co := min (u16 payload 0) 500
        let no2 := min (u16 payload 2) 200
        let read : State := s.setStation x.station { st with reading :=
          { present := true, co := co, no2 := no2, status := HeadStatus.ofCode (u8 payload 4)
            saturated := decide (500 < u16 payload 0) || decide (200 < u16 payload 2) } }
        ((∀ y, s.zones.get z = some y → u8 payload 4 ≠ 0 ∨ (co < y.profile.co.peak ∧ no2 < y.profile.no2.peak)) →
          SettlesOrStarts read t) ∧
        (∀ y, s.zones.get z = some y → u8 payload 4 = 0 → (y.profile.co.peak ≤ co ∨ y.profile.no2.peak ≤ no2) →
          (y.vent.overlay = .purge .gas → SettlesOrStarts (read.setZone z (some { y with vent := { y.vent with
            minPurgeTimer := some (s.now + y.profile.minPurge * 1000), runOut := false, durationTimer := none } })) t) ∧
          (y.vent.overlay = .purge .commanded → SettlesOrStarts (read.demanded z (y.turnedToGas s.now)) t) ∧
          (y.vent.overlay = .none ∨ y.vent.overlay = .blind →
            SettlesOrStarts (read.demanded z (y.purging .gas 0 s.now)) t) ∧
          (y.vent.overlay ≠ .purge .gas → Told s t .zoneAlarm z.val [0, 0]) ∧
          (y.vent.overlay ≠ .purge .gas → t.part ≠ .config → ∃ f, t.zones.get z = some f ∧
            f.vent.overlay = .purge .gas ∧ f.vent.z = 100 ∧
            f.vent.minPurgeTimer = some (s.now + y.profile.minPurge * 1000) ∧
            (y.vent.overlay ≠ .purge .commanded → f.guidance = .closed)))) ∧
      (∀ inputs, old.binding = .bay inputs → x.kind ≠ .command →
        let place (a : Addr) : Option TableId × Fin 64 := ((s.rows.get a.rowKey).table, a.pos)
        SettlesOrStarts ((Ev.begin answered).bayReport inputs payload).s t ∧
        (t.part ≠ .config →
          (∀ (j : Fin 16) (a own : Addr) (second : Bool) (b : Bay), inputs.get j = some a →
            s.inputBay a = some (own, second) → s.stage own = .slot (.bay b) →
            (∀ (k : Fin 16) (c o : Addr), inputs.get k = some c → s.inputBay c = some (o, second) →
              place o = place own → k = j) →
            ∃ b', t.stage own = .slot (.bay b') ∧
              (if second then b'.secondary else b'.primary) = some (match u8 payload j.val with
                | 0 => .free
                | 1 => .occupied
                | _ => .unknown) ∧
              b'.occ = occupancyOf b'.primary b'.secondary ∧
              b'.zone = b.zone ∧ b'.bl = b.bl ∧ b'.strict = b.strict ∧ b'.closed = b.closed ∧ b'.group = b.group) ∧
          ∀ own : Addr, (∀ (k : Fin 16) (c o : Addr) (second : Bool), inputs.get k = some c →
              s.inputBay c = some (o, second) → place o ≠ place own) →
            t.stage own = s.stage own)) ∧
      (∀ l, old.binding = .lane l → x.kind ≠ .command →
        (payload = [] ∨ (payload ≠ [] ∧ old.lastEvent = some (payload.getD 1 0)) → SettlesOrStarts answered t) ∧
        (payload ≠ [] → old.lastEvent ≠ some (payload.getD 1 0) →
          let vl : AccessLevel := if u8 payload 2 = 255 then 3 else toFin 4 (u8 payload 2)
          let taken := (Ev.begin (s.setStation x.station { st with lastEvent := some (payload.getD 1 0) })).laneEvent
            l (u8 payload 0) vl
          SettlesOrStarts taken.s t ∧
          (t.part ≠ .config →
            (∀ k : LaneId, (t.lanes.get k).queue = (taken.assignHeads.s.lanes.get k).queue) ∧
            t.holds = taken.assignHeads.s.holds ∧ t.holdOrder = taken.assignHeads.s.holdOrder)) ∧
        (payload ≠ [] → t.part ≠ .config → (t.stations.get x.station).lastEvent = some (payload.getD 1 0))) ∧
      (∀ channels, old.binding = .fan channels → x.kind ≠ .command →
        SettlesOrStarts ((Ev.begin answered).fanReports channels payload).s t ∧
        ∀ (c : Fin 4) (f : FanId) (y : Fan), channels.get c = some f → (∀ k, channels.get k = some f → k = c) →
          s.fans.get f = some y →
          (u8 payload c.val = 2 → (y.state ≠ .fault ∨ y.reason ≠ .trip) → Told s t .fanFault f.val [3]) ∧
          (u8 payload c.val = 0 → y.state = .running → Told s t .fanFault f.val [4]) ∧
          (t.part ≠ .config → ∃ y', t.fans.get f = some y' ∧
            y'.lastReport = some (match u8 payload c.val with
              | 0 => .stopped
              | 1 => .running
              | _ => .tripped) ∧
            (u8 payload c.val = 2 → y'.state = .fault ∧ y'.reason = .trip ∧
              (y.state ≠ .fault ∨ y.reason ≠ .trip → y'.command = 0)))) ∧
      (∀ channels motion, old.binding = .light channels motion → x.kind ≠ .command →
        SettlesOrStarts { answered with groups := Vector.ofFn fun g : GroupId => (s.groups.get g).map fun y =>
          let lamps := Vector.ofFn fun c : Fin 8 =>
            if channels.get c = some g then
              some (if (payload.getD 0 0).getLsbD c.val then LampReport.failed else LampReport.ok)
            else y.lamps.get c
          let failed := ((List.finRange 8).filter fun c => lamps.get c = some .failed).length
          let y1 : Group := if ∃ c, channels.get c = some g
            then { y with lamps := lamps, failedCount := failed, degraded := decide (y.tolerance ≤ failed) } else y
          let moved : Bool := (List.finRange 8).any fun i => motion.get i == some g && (payload.getD 1 0).getLsbD i.val
          if moved then { y1 with presenceTimer := some (s.now + y.presenceHold * 1000) } else y1 } t ∧
        ∀ (g : GroupId) (y : Group), s.groups.get g = some y → (∃ c, channels.get c = some g) →
          let failed := ((List.finRange 8).filter fun c => if channels.get c = some g
            then (payload.getD 0 0).getLsbD c.val else y.lamps.get c == some .failed).length
          failed ≠ y.failedCount → Told s t .lampFault g.val [byte failed, flagByte (decide (y.tolerance ≤ failed))]) ∧
      (∀ p, old.binding = .sign p → x.kind ≠ .command →
        SettlesOrStarts (answered.updPanel p fun y =>
          (if lost then y.returned else y).report payload s.now) t)

/-- FIELD_TIMEOUT, FIELD_LINE_ERROR and FIELD_BYTE_GAP (R169, R170, R171, R175): a miss makes its station SUSPECT and
the third one LOST; a line error is counted and the first one captured; a missed command to a panel abandons its update
(R84). A loss goes to the owner of the station's bindings: a BAY station's inputs, resolved by R29, become UNKNOWN and
its bays are judged (R32); an ENTRY lane's queue is emptied (R58); a panel's update is abandoned and its last report
none (R89); fans not in FAULT become LOST with their timers stopped, their ramps IDLE, their commands kept, out of the
deferred set, and their zones judged for UNVENTILATED (R134); groups have no fade and leave the deferred set (R150).
The third miss raises STATION_STATE with the cause MISSES (R171). That every such group becomes STEADY, also one that
was FADING and not deferred, is the model's reading: log entry 34. That the missed exchange of a LOST station leaves
its probe timer alone when it is no probe is the model's reading: log entry 33. -/
def Obligations.MissedExchanges : Prop :=
  (∀ (g : Seg) (x : Exchange) (d : Nat) (k : LineErrorKind) (received : List Byte) (s : State),
    s.openExchange g = some (x, d) → x.kind ≠ .test →
    let old := s.stations.get x.station
    let late : State := { s with now := max s.now d }
    let seg := s.segments.get g
    let counted (k : LineErrorKind) : State := s.setSegment g { seg with
      errors := min 255 (seg.errors + 1)
      capture := match seg.capture with
        | some c => some c
        | none => some ⟨x.station, k, received.take 4⟩ }
    (old.state ≠ .lost → old.misses < 2 →
      let st : Station := { old with misses := old.misses + 1, state := .suspect }
      (∃ t, exec (.fieldTimeout g) s = .next t ∧ Settles (late.setStation x.station st) t) ∧
      (∃ t, exec (.fieldLineError g k received) s = .next t ∧ Settles ((counted k).setStation x.station st) t) ∧
      ∃ t, exec (.fieldByteGap g received) s = .next t ∧ Settles ((counted .length).setStation x.station st) t) ∧
    (old.state = .lost →
      let st (s : State) : Station :=
        if x.kind = .probe then { old with probeTimer := some (s.now + 10000) } else old
      (∃ t, exec (.fieldTimeout g) s = .next t ∧ Settles (late.setStation x.station (st late)) t) ∧
      (∃ t, exec (.fieldLineError g k received) s = .next t ∧ Settles ((counted k).setStation x.station (st s)) t) ∧
      ∃ t, exec (.fieldByteGap g received) s = .next t ∧ Settles ((counted .length).setStation x.station (st s)) t) ∧
    (old.state ≠ .lost → 2 ≤ old.misses →
      let gone (t : State) (now : Nat) : Prop := Told s t .stationState (stationNumber x.station) [3, 1] ∧
        (t.part ≠ .config →
          (t.stations.get x.station).state = .lost ∧ (t.stations.get x.station).misses = 3 ∧
          (t.stations.get x.station).firstHad = true ∧ (t.stations.get x.station).staleTimer = none ∧
          (t.stations.get x.station).probeTimer = some (now + 10000))
      let handed (base t : State) : Prop :=
        SettlesOrStarts ((Ev.begin (base.setStation x.station { old with
          state := .lost, misses := 3, firstHad := true, staleTimer := none
          probeTimer := some (base.now + 10000) })).ownerLost old.binding).s t
      (∃ t, exec (.fieldTimeout g) s = .next t ∧ gone t late.now ∧ handed late t) ∧
      (∃ t, exec (.fieldLineError g k received) s = .next t ∧ gone t s.now ∧ handed (counted k) t) ∧
      ∃ t, exec (.fieldByteGap g received) s = .next t ∧ gone t s.now ∧ handed (counted .length) t) ∧
    (∀ p, x.kind = .command → old.binding = .sign p → ∀ t,
      exec (.fieldTimeout g) s = .next t ∨ exec (.fieldLineError g k received) s = .next t ∨
        exec (.fieldByteGap g received) s = .next t → (t.panels.get p).inFlight = none)) ∧
  (∀ e : Ev, e.ownerLost .none = e ∧ ∀ z, e.ownerLost (.gas z) = e) ∧
  (∀ (s : State) (a : Addr),
    (∀ b, s.stage a = .slot (.bay b) → s.inputBay a = some (a, false)) ∧
    (∀ t, s.stage a = .slot (.aliasTo t) → s.inputBay a = some (t, true)) ∧
    ((∀ b, s.stage a ≠ .slot (.bay b)) → (∀ t, s.stage a ≠ .slot (.aliasTo t)) → s.inputBay a = none)) ∧
  (∀ (e : Ev) (inputs : Vector (Option Addr) 16),
    let t := (e.ownerLost (.bay inputs)).s
    let place (a : Addr) : Option TableId × Fin 64 := ((e.s.rows.get a.rowKey).table, a.pos)
    (∀ (j : Fin 16) (a own : Addr) (second : Bool) (b : Bay), inputs.get j = some a →
      e.s.inputBay a = some (own, second) → e.s.stage own = .slot (.bay b) →
      ∃ b', t.stage own = .slot (.bay b') ∧ (if second then b'.secondary else b'.primary) = some .unknown ∧
        b'.occ = occupancyOf b'.primary b'.secondary) ∧
    ∀ own : Addr, (∀ (k : Fin 16) (c o : Addr) (second : Bool), inputs.get k = some c →
        e.s.inputBay c = some (o, second) → place o ≠ place own) →
      t.stage own = e.s.stage own) ∧
  (∀ (e : Ev) (l : LaneId), (e.ownerLost (.lane l)).s =
    if (e.s.lanes.get l).direction = .entry then e.s.setLane l { e.s.lanes.get l with queue := [] } else e.s) ∧
  (∀ (e : Ev) (p : PanelId), (e.ownerLost (.sign p)).s =
    e.s.setPanel p { e.s.panels.get p with inFlight := none, lastReport := .none }) ∧
  (∀ (e : Ev) (channels motion : Vector (Option GroupId) 8), (e.ownerLost (.light channels motion)).s = { e.s with
    groups := Vector.ofFn fun g : GroupId => (e.s.groups.get g).map fun y =>
      if ∃ c, channels.get c = some g then { y with movement := .steady, fadeTimer := none } else y
    supply := { e.s.supply with
      deferredGroups := Vector.ofFn fun g : GroupId =>
        if ∃ c, channels.get c = some g then none else e.s.supply.deferredGroups.get g } }) ∧
  ∀ (e : Ev) (channels : Vector (Option FanId) 4) (f : FanId),
    let t := (e.ownerLost (.fan channels)).s
    ((∀ c, channels.get c ≠ some f) →
      t.fans.get f = e.s.fans.get f ∧ t.supply.deferredFans.get f = e.s.supply.deferredFans.get f) ∧
    ∀ c y, channels.get c = some f → e.s.fans.get f = some y →
      (y.state = .fault → t.fans.get f = some y) ∧
      (y.state ≠ .fault →
        t.fans.get f = some { y with state := .lost, startTimer := none, stopTimer := none, ramp := none } ∧
        t.supply.deferredFans.get f = none ∧
        ∀ z ∈ y.served, ∀ w, t.zones.get z = some w → w.causes.unventilated = t.unventilated z)

/-- STALENESS_EXPIRY and PROBE_TIMER_EXPIRY (R171, R172): the station becomes LOST with its probe timer running, the
loss goes to its owner, and STATION_STATE tells it with the cause STALE; a probe that falls due stops the timer, and is
marked due or is the segment's exchange. Expiries of stopped timers change nothing: the model's choice, log entry 4.
The choice of a segment's next exchange (R174): none outside RUN or with one in flight; after a poll or a probe a
command to the first eligible station after the last-commanded one; else the lowest station with a probe due; else the
next station of a lane round, which begins after 4 ordinary polls or without any station to poll ordinarily; else the
next ordinary poll. What each sends (R83, R175): a command the content that its record holds, a panel's update under
the tag after its last READY's; a poll or probe of a LANE station the number kept (R173). How a round's count and
progress stand when stations leave or join is the model's reading: log entry 20. -/
def Obligations.StationTimers : Prop :=
  (∀ (i : StationId) (s : State),
    (∀ d, (s.stations.get i).staleTimer = some d →
      ∃ t, exec (.stalenessExpiry i) s = .next t ∧ Told s t .stationState (stationNumber i) [3, 2] ∧
        (t.part ≠ .config →
          (t.stations.get i).state = .lost ∧ (t.stations.get i).misses = 3 ∧ (t.stations.get i).firstHad = true ∧
          (t.stations.get i).staleTimer = none ∧ (t.stations.get i).probeTimer = some (max s.now d + 10000) ∧
          (t.stations.get i).reading = (s.stations.get i).reading ∧
          (∀ j : StationId, j ≠ i → (t.stations.get j).essence = (s.stations.get j).essence)) ∧
        (let lost : State := ({ s with now := max s.now d } : State).setStation i { s.stations.get i with
          state := .lost, misses := 3, firstHad := true, staleTimer := none
          probeTimer := some (max s.now d + 10000) }
         (∀ z, (s.stations.get i).binding = .gas z → SettlesOrStarts lost t) ∧
         SettlesOrStarts ((Ev.begin lost).ownerLost (s.stations.get i).binding).s t)) ∧
    ((s.stations.get i).staleTimer = none → exec (.stalenessExpiry i) s = .next s.closed) ∧
    (∀ d, (s.stations.get i).probeTimer = some d →
      ∃ t, exec (.probeTimerExpiry i) s = .next t ∧
        Settles (({ s with now := max s.now d } : State).setStation i { s.stations.get i with probeTimer := none }) t ∧
        ((t.stations.get i).probeDue = true ∨
          (t.segments.get (s.stations.get i).segment).exchange =
            some ⟨.probe, i, (s.stations.get i).pollPayload, none⟩)) ∧
    ((s.stations.get i).probeTimer = none → exec (.probeTimerExpiry i) s = .next s.closed)) ∧
  (∀ (g : Seg) (polled : Bool) (s : State),
    let x := s.segments.get g
    let st (i : StationId) : Station := s.stations.get i
    let on (i : StationId) : Prop := (st i).enabled = true ∧ (st i).segment = g ∧ (st i).binding ≠ .none
    let isLane (i : StationId) : Prop := ∃ l, (st i).binding = .lane l
    let eligible (i : StationId) : Prop := on i ∧ s.eligible (st i) = true
    let due (i : StationId) : Prop := on i ∧ (st i).probeDue = true
    let lane (i : StationId) : Prop := on i ∧ isLane i ∧ (st i).state ≠ .lost
    let ordinary (i : StationId) : Prop := on i ∧ ¬ isLane i ∧ (st i).state ≠ .lost
    let next := s.choose g polled
    (x.mode ≠ .run ∨ x.exchange.isSome = true → next = s) ∧
    (x.mode = .run → x.exchange = none →
      (polled = true → ∀ i, FirstAfter eligible x.lastCommanded i → next = s.sendCommand g i) ∧
      (polled = false ∨ (∀ i, ¬ eligible i) →
        (∀ i, Lowest due i → next = s.sendProbe g i) ∧
        ((∀ i, ¬ due i) →
          (∀ r i, x.round = some r → Lowest (fun j => lane j ∧ r < stationNumber j) i → next = s.sendLanePoll g i) ∧
          (∀ i, x.round = none → (4 ≤ x.pollCount ∨ ∀ j, ¬ ordinary j) → Lowest lane i → next = s.sendLanePoll g i) ∧
          (∀ r i, x.round = some r → (∀ j, lane j → stationNumber j ≤ r) → (∀ j, ¬ ordinary j) → Lowest lane i →
            (next.segments.get g).exchange = some ⟨.poll, i, (st i).pollPayload, none⟩) ∧
          (∀ i, FirstAfter ordinary x.pollPos i →
            ((∀ j, ¬ lane j) ∨ (∃ r, x.round = some r ∧ ∀ j, lane j → stationNumber j ≤ r) ∨
              (x.round = none ∧ x.pollCount < 4)) →
            next = s.setSegment g { x with
              exchange := some ⟨.poll, i, (st i).pollPayload, none⟩, round := none, pollPos := stationNumber i
              pollCount := (if x.round = none ∧ x.pollCount < 4 then x.pollCount else 0) + 1 }) ∧
          ((∀ j, ¬ lane j) → (∀ j, ¬ ordinary j) → (next.segments.get g).exchange = none))))) ∧
  (∀ (s : State) (x : Station), s.eligible x = true ↔ x.state ≠ .lost ∧
    ((x.dirty = true ∧ ((∃ ch, x.binding = .fan ch) ∨ ∃ ch m, x.binding = .light ch m)) ∨
      ∃ p, x.binding = .sign p ∧ (s.panels.get p).dirty = true ∧ (∃ t, (s.panels.get p).lastReport = .ready t) ∧
        (s.panels.get p).inFlight = none ∧ (s.panels.get p).holdOff = none)) ∧
  (∀ (g : Seg) (i : StationId) (s : State),
    let x := s.segments.get g
    let st := s.stations.get i
    let commanded (content : List Byte) : State := s.setSegment g { x with
      exchange := some ⟨.command, i, content, none⟩, lastCommanded := stationNumber i }
    (∀ ch, s.recordContent (.fan ch) = (List.finRange 4).map fun c : Fin 4 =>
      match (ch.get c).bind fun f => s.fans.get f with
      | some y => byte y.command
      | none => 0) ∧
    (∀ ch m, s.recordContent (.light ch m) = (List.finRange 8).map fun c : Fin 8 =>
      match (ch.get c).bind fun f => s.groups.get f with
      | some y => byte y.commanded
      | none => 0) ∧
    (∀ ch, st.binding = .fan ch → s.sendCommand g i = commanded ((List.finRange 4).map fun c : Fin 4 =>
      match (ch.get c).bind fun f => s.fans.get f with
      | some y => byte y.command
      | none => 0)) ∧
    (∀ ch m, st.binding = .light ch m → s.sendCommand g i = commanded ((List.finRange 8).map fun c : Fin 8 =>
      match (ch.get c).bind fun f => s.groups.get f with
      | some y => byte y.commanded
      | none => 0)) ∧
    (∀ p c t, st.binding = .sign p → (s.panels.get p).wanted = some c → (s.panels.get p).lastReport = .ready t →
      s.sendCommand g i = (commanded ((t + 1) :: c.bytes)).setPanel p
        { s.panels.get p with inFlight := some (c, t + 1) }) ∧
    s.sendProbe g i = (s.setStation i { st with probeDue := false }).setSegment g
      { x with exchange := some ⟨.probe, i, st.pollPayload, none⟩ } ∧
    (let last := ∀ j : StationId, (s.stations.get j).onSegment g = true → (∃ l, (s.stations.get j).binding = .lane l) →
        (s.stations.get j).state ≠ .lost → j ≤ i
     st.onSegment g = true → (∃ l, st.binding = .lane l) → st.state ≠ .lost →
      (last → s.sendLanePoll g i = s.setSegment g { x with
        exchange := some ⟨.poll, i, st.pollPayload, none⟩, round := none, pollCount := 0 }) ∧
      (¬ last → s.sendLanePoll g i = s.setSegment g { x with
        exchange := some ⟨.poll, i, st.pollPayload, none⟩, round := some (stationNumber i) }))) ∧
  ∀ x : Station,
    (∀ l, x.binding = .lane l → x.pollPayload = match x.lastEvent with
      | some n => [1, n]
      | none => [0, 0]) ∧
    ((∀ l, x.binding ≠ .lane l) → x.pollPayload = [])

/-! ### Operating states -/

/-- Start (R25, R78, R110, R126, R134, R139, R142, R144, R167, R174, R178, R186): with every check passed the part is
STARTING. Both segments are in RUN, a loop test of theirs aborted, which TEST_DONE tells; each has chosen its first
exchange, as after no poll, from the schedule's positions on entry to RUN: before the lowest station number, no ordinary
poll counted, no lane round in progress, no station last commanded (R174; StationTimers says what a segment chooses).
The recount is at its first row, its restart count 0, or one more, up to 255, where one was in flight; the staleness
timers of the enabled stations and the evaluation timers of the zones run; every zone is judged for UNVENTILATED; a fan
and a group that no station binds is LOST; every group's state and wanted level and every panel's wanted content are
derived. The map, the lanes, the routes, the supply settings, and the configured fields of zones, fans, groups, panels
and stations stay. -/
def Obligations.StartTaken : Prop :=
  (∀ (tag : Byte) (s : State), s.link.waiting = none → s.part = .config → firstFail s.startChecks = none →
    ∃ t, exec (.start tag []) s = .next t ∧ Replied s t tag .accepted ∧ t.part = .starting ∧
      (s.recount = .idle → t.recount = .scanning 0 0) ∧
      (∀ k n, s.recount = .scanning k n → t.recount = .scanning 0 (min 255 (n + 1))) ∧
      t.shadow = Vector.replicate 24 CountBlock.zero ∧
      (∀ g : Seg,
        let x := s.segments.get g
        let begun : Segment := { x with
          mode := .run, exchange := none, testRunning := if x.test.isSome then false else x.testRunning
          test := if x.testRunning then x.test.map fun r => { r with outcome := .aborted } else x.test
          pollPos := 0, pollCount := 0, round := none, lastCommanded := 0 }
        t.segments.get g = ((s.setSegment g begun).choose g false).segments.get g ∧
        (t.segments.get g).essence = begun.essence ∧
        ∀ r, x.test = some r → x.testRunning = true → Told s t .testDone g.val
          ([2] ++ bytes2 r.sent ++ bytes2 r.returned ++ [byte r.byteErrors, byte r.timeouts])) ∧
      (∀ i : StationId,
        let x := s.stations.get i
        (t.stations.get i).essence =
          if x.enabled then { x.essence with staleTimer := some (s.now + 30000) } else x.essence) ∧
      (∀ z x, s.zones.get z = some x → t.zones.get z = some { x with
        causes := { x.causes with unventilated := t.unventilated z }
        vent := { x.vent with evalTimer := some (s.now + x.profile.period * 1000) } }) ∧
      (∀ f x, s.fans.get f = some x → ∃ y, t.fans.get f = some y ∧
        y.essence = if s.fanStation f = none ∧ x.state ≠ .fault then { x.essence with state := .lost } else x.essence) ∧
      (∀ g x, s.groups.get g = some x → ∃ y, t.groups.get g = some y ∧ y.essence = x.essence ∧
        y.state = t.groupState y ∧ y.wanted = t.wantedLevel y ∧
        (s.groupStation g = none → t.driverLost g = true)) ∧
      (∀ i : PanelId, t.panels.get i = { s.panels.get i with wanted := t.contentOf (s.panels.get i).kind }) ∧
      t.lanes.map Lane.essence = s.lanes.map Lane.essence ∧ t.supply.essence = s.supply.essence ∧
      t.link.essence = s.link.essence ∧
      t.levels = s.levels ∧ t.rows = s.rows ∧ t.tables = s.tables ∧ t.windows = s.windows ∧ t.live = s.live ∧
      t.routes = s.routes ∧ t.cursor = s.cursor ∧ t.now = s.now) ∧
  (∀ s : State, s.bindingsReady .none = true ∧ (∀ inputs, s.bindingsReady (.bay inputs) = true) ∧
    (∀ z, s.bindingsReady (.gas z) = true ↔ (s.zones.get z).isSome = true) ∧
    (∀ l, s.bindingsReady (.lane l) = true ↔ (s.lanes.get l).direction ≠ .none) ∧
    (∀ ch, s.bindingsReady (.fan ch) = true ↔ ∀ c f, ch.get c = some f → (s.fans.get f).isSome = true) ∧
    (∀ ch m, s.bindingsReady (.light ch m) = true ↔
      ∀ c g, ch.get c = some g ∨ m.get c = some g → (s.groups.get g).isSome = true) ∧
    ∀ p, s.bindingsReady (.sign p) = true ↔ (s.panels.get p).kind ≠ .none) ∧
  ∀ s : State, firstFail s.startChecks = none ↔
    (∀ i : StationId, (s.stations.get i).enabled = true → s.bindingsReady (s.stations.get i).binding = true) ∧
    (∀ z : ZoneId, (s.zones.get z).isSome = true → ∃ f x, s.fans.get f = some x ∧ z ∈ x.served) ∧
    (∀ i r, s.routes.get i = some r → (s.lanes.get r.lane).direction = .entry) ∧
    ∀ i l, (s.panels.get i).kind = .lane l → (s.lanes.get l).direction = .entry

/-- Stop HOLD and Restart (R12, R24, R28, R30, R45, R91, R154, R165, R167, R178, R188, R190): the part enters CONFIG at
once, a running loop test is aborted with its record kept, and the bays, their counts, zones, lanes, holds, panels,
fans, groups, the supply limiter, stations and segments take their values of CONFIG; the configuration and the supply
settings stay. The clause on a bay's counted-as supposes that no other row is bound to its row's table (R6). -/
def Obligations.StopHoldAndRestart : Prop :=
  ∀ (tag : Byte) (s : State), s.link.waiting = none →
    let r := ((Ev.begin s).enterConfig.queueReply tag (.done [])).close
    exec (.restart tag []) s = .next r ∧
    (s.part ≠ .config → exec (.stopHold tag) s = .next r) ∧
    r.part = .config ∧ Replied s r tag (.done []) ∧ r.recount = .idle ∧ r.holdOrder = [] ∧
    r.now = s.now ∧ r.routes = s.routes ∧ r.windows = s.windows ∧ r.cursor = s.cursor ∧
    r.supply.mode = s.supply.mode ∧ r.supply.limit = s.supply.limit ∧ r.supply.base = s.supply.base ∧
    r.supply.floor = s.supply.floor ∧ r.link.mask = s.link.mask ∧ r.link.flags = s.link.flags ∧
    (r.supply.overLimit = true ↔
      (s.supply.mode = .standby ∨ 0 < s.supply.limit) ∧ s.supply.limit < s.supply.base) ∧
    r.committed = s.supply.base ∧ r.deferredOrder = [] ∧
    r.link.notices = s.link.notices.filter (fun n => n.kind == .stopped) ∧
    (∀ l : LevelId, r.levels.get l = { s.levels.get l with visited := false }) ∧
    (∀ k : RowKey, r.rows.get k = { s.rows.get k with visited := false }) ∧
    (∀ a : Addr, (∀ b, s.stage a ≠ .slot (.bay b)) → r.stage a = s.stage a) ∧
    (∀ (a : Addr) (b : Bay), s.stage a = .slot (.bay b) →
      (∀ k, (s.rows.get k).table = (s.rows.get a.rowKey).table → k = a.rowKey) →
      r.stage a = .slot (.bay { b with
        primary := b.primary.map fun _ => .unknown, secondary := b.secondary.map fun _ => .unknown
        occ := .unknown, disagree := false, disagreeTimer := none, visited := false, changed := false
        counted := ⟨b.zone, bucketOf (s.effectiveLevel a b) b.strict, !s.isClosed a b, .unknown⟩ })) ∧
    r.live = r.sumCounts ∧ r.shadow = Vector.replicate 24 CountBlock.zero ∧
    (∀ l : LaneId, r.lanes.get l = { s.lanes.get l with queue := [] }) ∧
    (∀ id : HoldId, r.holds.get id = none) ∧
    (∀ i : PanelId, r.panels.get i = ⟨(s.panels.get i).kind, none, none, none, none, .none, none⟩) ∧
    (∀ f x, s.fans.get f = some x → r.fans.get f = some { x with
      state := .stopped, reason := .none, target := 0, wanted := 0, command := 0, lastReport := none
      startTimer := none, stopTimer := none, ramp := none }) ∧
    (∀ g x, s.groups.get g = some x → r.groups.get g = some { x with
      presenceTimer := none, routeCount := 0, lamps := Vector.replicate 8 none, failedCount := 0, degraded := false
      state := .base, wanted := 0, commanded := 0, movement := .steady, fadeTimer := none }) ∧
    (∀ z x, s.zones.get z = some x → ∃ y, r.zones.get z = some y ∧ y.profile = x.pendingProfile.getD x.profile ∧
      y.causes = ⟨x.causes.commanded, false, false⟩ ∧ y.air = ⟨false, 0, 0, 0, 0, false, false, false, false⟩ ∧
      y.vent =
        { base := y.profile.programme, manualValue := y.profile.manualValue, overlay := .none, blindPending := false
          minPurgeTimer := none, runOut := false, durationTimer := none, e := 0, m := 0, dCo := 0, dNo2 := 0
          dTraffic := 0, demand := 0, ventilating := false, z := 0, evalTimer := none }) ∧
    (∀ i : StationId, r.stations.get i = { s.stations.get i with
      state := if (s.stations.get i).enabled then .active else .disabled
      firstHad := false, misses := 0, staleTimer := none, probeTimer := none, probeDue := false, lastEvent := none
      dirty := false, reading := ⟨false, 0, 0, .fault, false⟩ }) ∧
    ∀ g : Seg, (r.segments.get g).mode = .quiet ∧ (r.segments.get g).errors = 0 ∧
      (r.segments.get g).capture = none ∧ (r.segments.get g).exchange = none ∧
      (r.segments.get g).rate = (s.segments.get g).rate ∧
      (∀ kept, (s.segments.get g).test = some kept → (r.segments.get g).testRunning = false ∧
        (r.segments.get g).test = some
          (if (s.segments.get g).testRunning then { kept with outcome := .aborted } else kept)) ∧
      ((s.segments.get g).test = none → (r.segments.get g).test = none)

/-- Stop SAFE (R129, R144, R152, R178, R188, R189): from STARTING and RUN the part enters STOPPING, a running loop test
is aborted with its record kept and TEST_DONE raised, every fan's wanted speed becomes its safe speed raised to its
minimum and every group's wanted level 100, and it stays there while a dirty output record of a station that is not
LOST is still to be sent; otherwise the stop may complete at once. The conditions of the entry to RUN (R187) and of the
completion (R189), term by term, and what the judgement of each does: the part enters RUN with STARTED, or CONFIG with
STOPPED; where the condition fails it does nothing. That a stop is judged in more events than R189 names is the model's
reading: log entry 35. -/
def Obligations.StopSafe : Prop :=
  (∀ (tag : Byte) (s : State), s.link.waiting = none → s.running = true →
    ∃ t, exec (.stopSafe tag) s = .next t ∧ Replied s t tag .accepted ∧
      (t.part = .stopping ∨ t.part = .config) ∧
      (∀ g : Seg,
        let x := s.segments.get g
        (x.test = none → (t.segments.get g).test = none) ∧
        ∀ r, x.test = some r → (t.segments.get g).testRunning = false ∧
          (t.segments.get g).test = some (if x.testRunning then { r with outcome := .aborted } else r) ∧
          (x.testRunning = true →
            (x.mode ≠ .run → (t.segments.get g).exchange = none) ∧ Told s t .testDone g.val
              ([2] ++ bytes2 r.sent ++ bytes2 r.returned ++ [byte r.byteErrors, byte r.timeouts]))) ∧
      ((∃ i : StationId, (s.stations.get i).enabled = true ∧ (s.stations.get i).dirty = true ∧
          (s.stations.get i).state ≠ .lost ∧
          ((∃ ch, (s.stations.get i).binding = .fan ch) ∨ ∃ ch m, (s.stations.get i).binding = .light ch m)) →
        t.part = .stopping) ∧
      (t.part = .stopping →
        (∀ f x, s.fans.get f = some x → ∃ y, t.fans.get f = some y ∧
          y.wanted = if 0 < x.safeSpeed ∧ x.safeSpeed < x.minSpeed then x.minSpeed else x.safeSpeed) ∧
        (∀ g x, s.groups.get g = some x → ∃ y, t.groups.get g = some y ∧ y.wanted = 100) ∧
        t.live = s.live ∧ t.recount = s.recount ∧ t.lanes.map Lane.essence = s.lanes.map Lane.essence)) ∧
  (∀ s : State, s.runReady = true ↔
    (∀ i : StationId, (s.stations.get i).enabled = true → (s.stations.get i).firstHad = true) ∧ s.recount = .idle) ∧
  (∀ s : State, s.stopReady = true ↔
    (∀ i : StationId, (s.stations.get i).enabled = true →
      ((∃ ch, (s.stations.get i).binding = .fan ch) ∨ ∃ ch m, (s.stations.get i).binding = .light ch m) →
      (s.stations.get i).dirty = false ∨ (s.stations.get i).state = .lost) ∧
    ∀ f x, s.fans.get f = some x → x.state = .fault ∨ x.state = .lost ∨ x.command = x.wanted ∨
      (s.supply.deferredFans.get f).isSome = true) ∧
  ∀ e : Ev,
    (e.judgeRun = true → e.s.part = .starting → e.s.runReady = true →
      e.judgeEntryToRun = ({ e with s := { e.s with part := .run } } : Ev).raise .started 0 []) ∧
    (e.s.part ≠ .starting ∨ e.s.runReady = false → e.judgeEntryToRun = e) ∧
    (e.judgeStop = true → e.s.part = .stopping → e.s.stopReady = true →
      e.judgeCompletion = e.enterConfig.raise .stopped 0 []) ∧
    (e.s.part ≠ .stopping ∨ e.s.stopReady = false → e.judgeCompletion = e)

/-- The part states (R186 to R190): no step makes any move between them that chapter 10 does not name. The entry to RUN
and the completion of a Stop SAFE take place in the first event that fulfils their conditions (R187, R189): no step
leaves the part in STARTING with every first-result mark had and no recount in flight, nor in STOPPING with the
condition of the completion fulfilled; and the part enters RUN with R187's condition only. -/
def Obligations.PartStateMoves : Prop :=
  (∀ s t : State, step s = .next t → s.part.mayBecome t.part = true) ∧
  (∀ s t : State, ReadyLaw s → step s = .next t → ReadyLaw t) ∧
  ∀ s t : State, s.part = .starting → step s = .next t → t.part = .run → t.runReady = true
end

