-- ==== Sys2Proof/Laws/State.lean ====
section
/-!
SUPPORT. The small lemmas of the state: one lemma for each field and each update, and the tables' reads
after writes.
-/

namespace Sys2Proof

theorem get_eq_getElem {α : Type} {n : Nat} (t : Vector α n) (i : Fin n) : t.get i = t[i.val] := rfl

theorem get_put_self {α : Type} {n : Nat} (t : Vector α n) (i : Fin n) (x : α) : (put t i x).get i = x := by
  rw [get_eq_getElem]
  simp [put]

theorem get_put_ne {α : Type} {n : Nat} (t : Vector α n) {i j : Fin n} (x : α) (h : j ≠ i) :
    (put t i x).get j = t.get j := by
  have : i.val ≠ j.val := fun e => h (Fin.ext e.symm)
  rw [get_eq_getElem, get_eq_getElem]
  simp [put, this]

@[simp] theorem get_put {α : Type} {n : Nat} (t : Vector α n) (i j : Fin n) (x : α) :
    (put t i x).get j = if j = i then x else t.get j := by
  split
  · subst_vars; exact get_put_self t _ x
  · exact get_put_ne t x ‹_›

@[simp] theorem get_modify {α : Type} {n : Nat} (t : Vector α n) (i j : Fin n) (f : α → α) :
    (modify t i f).get j = if j = i then f (t.get i) else t.get j := by
  simp [modify]

@[simp] theorem get_map {α β : Type} {n : Nat} (t : Vector α n) (f : α → β) (i : Fin n) :
    (t.map f).get i = f (t.get i) := by
  rw [get_eq_getElem, get_eq_getElem]
  simp

@[simp] theorem get_replicate {α : Type} {n : Nat} (x : α) (i : Fin n) : (Vector.replicate n x).get i = x := by
  rw [get_eq_getElem]
  simp

theorem mem_toList_get {α : Type} {n : Nat} (t : Vector α n) (i : Fin n) : t.get i ∈ t.toList := by
  rw [Vector.mem_toList_iff]
  exact Vector.getElem_mem i.isLt

end Sys2Proof

namespace Sys2Proof.Machine

/-! ### `State.setLink` -/

@[simp] theorem State.setLink_part (s : State) (l : Link) : (s.setLink l).part = s.part := rfl
@[simp] theorem State.setLink_levels (s : State) (l : Link) : (s.setLink l).levels = s.levels := rfl
@[simp] theorem State.setLink_rows (s : State) (l : Link) : (s.setLink l).rows = s.rows := rfl
@[simp] theorem State.setLink_tables (s : State) (l : Link) : (s.setLink l).tables = s.tables := rfl
@[simp] theorem State.setLink_windows (s : State) (l : Link) : (s.setLink l).windows = s.windows := rfl
@[simp] theorem State.setLink_cursor (s : State) (l : Link) : (s.setLink l).cursor = s.cursor := rfl
@[simp] theorem State.setLink_recount (s : State) (l : Link) : (s.setLink l).recount = s.recount := rfl
@[simp] theorem State.setLink_shadow (s : State) (l : Link) : (s.setLink l).shadow = s.shadow := rfl
@[simp] theorem State.setLink_live (s : State) (l : Link) : (s.setLink l).live = s.live := rfl
@[simp] theorem State.setLink_zones (s : State) (l : Link) : (s.setLink l).zones = s.zones := rfl
@[simp] theorem State.setLink_lanes (s : State) (l : Link) : (s.setLink l).lanes = s.lanes := rfl
@[simp] theorem State.setLink_holds (s : State) (l : Link) : (s.setLink l).holds = s.holds := rfl
@[simp] theorem State.setLink_holdOrder (s : State) (l : Link) : (s.setLink l).holdOrder = s.holdOrder := rfl
@[simp] theorem State.setLink_routes (s : State) (l : Link) : (s.setLink l).routes = s.routes := rfl
@[simp] theorem State.setLink_panels (s : State) (l : Link) : (s.setLink l).panels = s.panels := rfl
@[simp] theorem State.setLink_fans (s : State) (l : Link) : (s.setLink l).fans = s.fans := rfl
@[simp] theorem State.setLink_groups (s : State) (l : Link) : (s.setLink l).groups = s.groups := rfl
@[simp] theorem State.setLink_supply (s : State) (l : Link) : (s.setLink l).supply = s.supply := rfl
@[simp] theorem State.setLink_stations (s : State) (l : Link) : (s.setLink l).stations = s.stations := rfl
@[simp] theorem State.setLink_segments (s : State) (l : Link) : (s.setLink l).segments = s.segments := rfl
@[simp] theorem State.setLink_link (s : State) (l : Link) : (s.setLink l).link = l := rfl
@[simp] theorem State.setLink_now (s : State) (l : Link) : (s.setLink l).now = s.now := rfl
@[simp] theorem State.setLink_draws (s : State) (l : Link) : (s.setLink l).draws = s.draws := rfl
@[simp] theorem State.setLink_pending (s : State) (l : Link) : (s.setLink l).pending = s.pending := rfl

/-! ### `State.setZone` -/

@[simp] theorem State.setZone_part (s : State) (z : ZoneId) (x : Option Zone) : (s.setZone z x).part = s.part := rfl
@[simp] theorem State.setZone_levels (s : State) (z : ZoneId) (x : Option Zone) : (s.setZone z x).levels = s.levels := rfl
@[simp] theorem State.setZone_rows (s : State) (z : ZoneId) (x : Option Zone) : (s.setZone z x).rows = s.rows := rfl
@[simp] theorem State.setZone_tables (s : State) (z : ZoneId) (x : Option Zone) : (s.setZone z x).tables = s.tables := rfl
@[simp] theorem State.setZone_windows (s : State) (z : ZoneId) (x : Option Zone) : (s.setZone z x).windows = s.windows := rfl
@[simp] theorem State.setZone_cursor (s : State) (z : ZoneId) (x : Option Zone) : (s.setZone z x).cursor = s.cursor := rfl
@[simp] theorem State.setZone_recount (s : State) (z : ZoneId) (x : Option Zone) : (s.setZone z x).recount = s.recount := rfl
@[simp] theorem State.setZone_shadow (s : State) (z : ZoneId) (x : Option Zone) : (s.setZone z x).shadow = s.shadow := rfl
@[simp] theorem State.setZone_live (s : State) (z : ZoneId) (x : Option Zone) : (s.setZone z x).live = s.live := rfl
@[simp] theorem State.setZone_zones (s : State) (z : ZoneId) (x : Option Zone) : (s.setZone z x).zones = put s.zones z x := rfl
@[simp] theorem State.setZone_lanes (s : State) (z : ZoneId) (x : Option Zone) : (s.setZone z x).lanes = s.lanes := rfl
@[simp] theorem State.setZone_holds (s : State) (z : ZoneId) (x : Option Zone) : (s.setZone z x).holds = s.holds := rfl
@[simp] theorem State.setZone_holdOrder (s : State) (z : ZoneId) (x : Option Zone) : (s.setZone z x).holdOrder = s.holdOrder := rfl
@[simp] theorem State.setZone_routes (s : State) (z : ZoneId) (x : Option Zone) : (s.setZone z x).routes = s.routes := rfl
@[simp] theorem State.setZone_panels (s : State) (z : ZoneId) (x : Option Zone) : (s.setZone z x).panels = s.panels := rfl
@[simp] theorem State.setZone_fans (s : State) (z : ZoneId) (x : Option Zone) : (s.setZone z x).fans = s.fans := rfl
@[simp] theorem State.setZone_groups (s : State) (z : ZoneId) (x : Option Zone) : (s.setZone z x).groups = s.groups := rfl
@[simp] theorem State.setZone_supply (s : State) (z : ZoneId) (x : Option Zone) : (s.setZone z x).supply = s.supply := rfl
@[simp] theorem State.setZone_stations (s : State) (z : ZoneId) (x : Option Zone) : (s.setZone z x).stations = s.stations := rfl
@[simp] theorem State.setZone_segments (s : State) (z : ZoneId) (x : Option Zone) : (s.setZone z x).segments = s.segments := rfl
@[simp] theorem State.setZone_link (s : State) (z : ZoneId) (x : Option Zone) : (s.setZone z x).link = s.link := rfl
@[simp] theorem State.setZone_now (s : State) (z : ZoneId) (x : Option Zone) : (s.setZone z x).now = s.now := rfl
@[simp] theorem State.setZone_draws (s : State) (z : ZoneId) (x : Option Zone) : (s.setZone z x).draws = s.draws := rfl
@[simp] theorem State.setZone_pending (s : State) (z : ZoneId) (x : Option Zone) : (s.setZone z x).pending = s.pending := rfl

/-! ### `State.setLane` -/

@[simp] theorem State.setLane_part (s : State) (i : LaneId) (x : Lane) : (s.setLane i x).part = s.part := rfl
@[simp] theorem State.setLane_levels (s : State) (i : LaneId) (x : Lane) : (s.setLane i x).levels = s.levels := rfl
@[simp] theorem State.setLane_rows (s : State) (i : LaneId) (x : Lane) : (s.setLane i x).rows = s.rows := rfl
@[simp] theorem State.setLane_tables (s : State) (i : LaneId) (x : Lane) : (s.setLane i x).tables = s.tables := rfl
@[simp] theorem State.setLane_windows (s : State) (i : LaneId) (x : Lane) : (s.setLane i x).windows = s.windows := rfl
@[simp] theorem State.setLane_cursor (s : State) (i : LaneId) (x : Lane) : (s.setLane i x).cursor = s.cursor := rfl
@[simp] theorem State.setLane_recount (s : State) (i : LaneId) (x : Lane) : (s.setLane i x).recount = s.recount := rfl
@[simp] theorem State.setLane_shadow (s : State) (i : LaneId) (x : Lane) : (s.setLane i x).shadow = s.shadow := rfl
@[simp] theorem State.setLane_live (s : State) (i : LaneId) (x : Lane) : (s.setLane i x).live = s.live := rfl
@[simp] theorem State.setLane_zones (s : State) (i : LaneId) (x : Lane) : (s.setLane i x).zones = s.zones := rfl
@[simp] theorem State.setLane_lanes (s : State) (i : LaneId) (x : Lane) : (s.setLane i x).lanes = put s.lanes i x := rfl
@[simp] theorem State.setLane_holds (s : State) (i : LaneId) (x : Lane) : (s.setLane i x).holds = s.holds := rfl
@[simp] theorem State.setLane_holdOrder (s : State) (i : LaneId) (x : Lane) : (s.setLane i x).holdOrder = s.holdOrder := rfl
@[simp] theorem State.setLane_routes (s : State) (i : LaneId) (x : Lane) : (s.setLane i x).routes = s.routes := rfl
@[simp] theorem State.setLane_panels (s : State) (i : LaneId) (x : Lane) : (s.setLane i x).panels = s.panels := rfl
@[simp] theorem State.setLane_fans (s : State) (i : LaneId) (x : Lane) : (s.setLane i x).fans = s.fans := rfl
@[simp] theorem State.setLane_groups (s : State) (i : LaneId) (x : Lane) : (s.setLane i x).groups = s.groups := rfl
@[simp] theorem State.setLane_supply (s : State) (i : LaneId) (x : Lane) : (s.setLane i x).supply = s.supply := rfl
@[simp] theorem State.setLane_stations (s : State) (i : LaneId) (x : Lane) : (s.setLane i x).stations = s.stations := rfl
@[simp] theorem State.setLane_segments (s : State) (i : LaneId) (x : Lane) : (s.setLane i x).segments = s.segments := rfl
@[simp] theorem State.setLane_link (s : State) (i : LaneId) (x : Lane) : (s.setLane i x).link = s.link := rfl
@[simp] theorem State.setLane_now (s : State) (i : LaneId) (x : Lane) : (s.setLane i x).now = s.now := rfl
@[simp] theorem State.setLane_draws (s : State) (i : LaneId) (x : Lane) : (s.setLane i x).draws = s.draws := rfl
@[simp] theorem State.setLane_pending (s : State) (i : LaneId) (x : Lane) : (s.setLane i x).pending = s.pending := rfl

/-! ### `State.setHold` -/

@[simp] theorem State.setHold_part (s : State) (i : HoldId) (x : Option Hold) : (s.setHold i x).part = s.part := rfl
@[simp] theorem State.setHold_levels (s : State) (i : HoldId) (x : Option Hold) : (s.setHold i x).levels = s.levels := rfl
@[simp] theorem State.setHold_rows (s : State) (i : HoldId) (x : Option Hold) : (s.setHold i x).rows = s.rows := rfl
@[simp] theorem State.setHold_tables (s : State) (i : HoldId) (x : Option Hold) : (s.setHold i x).tables = s.tables := rfl
@[simp] theorem State.setHold_windows (s : State) (i : HoldId) (x : Option Hold) : (s.setHold i x).windows = s.windows := rfl
@[simp] theorem State.setHold_cursor (s : State) (i : HoldId) (x : Option Hold) : (s.setHold i x).cursor = s.cursor := rfl
@[simp] theorem State.setHold_recount (s : State) (i : HoldId) (x : Option Hold) : (s.setHold i x).recount = s.recount := rfl
@[simp] theorem State.setHold_shadow (s : State) (i : HoldId) (x : Option Hold) : (s.setHold i x).shadow = s.shadow := rfl
@[simp] theorem State.setHold_live (s : State) (i : HoldId) (x : Option Hold) : (s.setHold i x).live = s.live := rfl
@[simp] theorem State.setHold_zones (s : State) (i : HoldId) (x : Option Hold) : (s.setHold i x).zones = s.zones := rfl
@[simp] theorem State.setHold_lanes (s : State) (i : HoldId) (x : Option Hold) : (s.setHold i x).lanes = s.lanes := rfl
@[simp] theorem State.setHold_holds (s : State) (i : HoldId) (x : Option Hold) : (s.setHold i x).holds = put s.holds i x := rfl
@[simp] theorem State.setHold_holdOrder (s : State) (i : HoldId) (x : Option Hold) : (s.setHold i x).holdOrder = s.holdOrder := rfl
@[simp] theorem State.setHold_routes (s : State) (i : HoldId) (x : Option Hold) : (s.setHold i x).routes = s.routes := rfl
@[simp] theorem State.setHold_panels (s : State) (i : HoldId) (x : Option Hold) : (s.setHold i x).panels = s.panels := rfl
@[simp] theorem State.setHold_fans (s : State) (i : HoldId) (x : Option Hold) : (s.setHold i x).fans = s.fans := rfl
@[simp] theorem State.setHold_groups (s : State) (i : HoldId) (x : Option Hold) : (s.setHold i x).groups = s.groups := rfl
@[simp] theorem State.setHold_supply (s : State) (i : HoldId) (x : Option Hold) : (s.setHold i x).supply = s.supply := rfl
@[simp] theorem State.setHold_stations (s : State) (i : HoldId) (x : Option Hold) : (s.setHold i x).stations = s.stations := rfl
@[simp] theorem State.setHold_segments (s : State) (i : HoldId) (x : Option Hold) : (s.setHold i x).segments = s.segments := rfl
@[simp] theorem State.setHold_link (s : State) (i : HoldId) (x : Option Hold) : (s.setHold i x).link = s.link := rfl
@[simp] theorem State.setHold_now (s : State) (i : HoldId) (x : Option Hold) : (s.setHold i x).now = s.now := rfl
@[simp] theorem State.setHold_draws (s : State) (i : HoldId) (x : Option Hold) : (s.setHold i x).draws = s.draws := rfl
@[simp] theorem State.setHold_pending (s : State) (i : HoldId) (x : Option Hold) : (s.setHold i x).pending = s.pending := rfl

/-! ### `State.setPanel` -/

@[simp] theorem State.setPanel_part (s : State) (i : PanelId) (x : Panel) : (s.setPanel i x).part = s.part := rfl
@[simp] theorem State.setPanel_levels (s : State) (i : PanelId) (x : Panel) : (s.setPanel i x).levels = s.levels := rfl
@[simp] theorem State.setPanel_rows (s : State) (i : PanelId) (x : Panel) : (s.setPanel i x).rows = s.rows := rfl
@[simp] theorem State.setPanel_tables (s : State) (i : PanelId) (x : Panel) : (s.setPanel i x).tables = s.tables := rfl
@[simp] theorem State.setPanel_windows (s : State) (i : PanelId) (x : Panel) : (s.setPanel i x).windows = s.windows := rfl
@[simp] theorem State.setPanel_cursor (s : State) (i : PanelId) (x : Panel) : (s.setPanel i x).cursor = s.cursor := rfl
@[simp] theorem State.setPanel_recount (s : State) (i : PanelId) (x : Panel) : (s.setPanel i x).recount = s.recount := rfl
@[simp] theorem State.setPanel_shadow (s : State) (i : PanelId) (x : Panel) : (s.setPanel i x).shadow = s.shadow := rfl
@[simp] theorem State.setPanel_live (s : State) (i : PanelId) (x : Panel) : (s.setPanel i x).live = s.live := rfl
@[simp] theorem State.setPanel_zones (s : State) (i : PanelId) (x : Panel) : (s.setPanel i x).zones = s.zones := rfl
@[simp] theorem State.setPanel_lanes (s : State) (i : PanelId) (x : Panel) : (s.setPanel i x).lanes = s.lanes := rfl
@[simp] theorem State.setPanel_holds (s : State) (i : PanelId) (x : Panel) : (s.setPanel i x).holds = s.holds := rfl
@[simp] theorem State.setPanel_holdOrder (s : State) (i : PanelId) (x : Panel) : (s.setPanel i x).holdOrder = s.holdOrder := rfl
@[simp] theorem State.setPanel_routes (s : State) (i : PanelId) (x : Panel) : (s.setPanel i x).routes = s.routes := rfl
@[simp] theorem State.setPanel_panels (s : State) (i : PanelId) (x : Panel) : (s.setPanel i x).panels = put s.panels i x := rfl
@[simp] theorem State.setPanel_fans (s : State) (i : PanelId) (x : Panel) : (s.setPanel i x).fans = s.fans := rfl
@[simp] theorem State.setPanel_groups (s : State) (i : PanelId) (x : Panel) : (s.setPanel i x).groups = s.groups := rfl
@[simp] theorem State.setPanel_supply (s : State) (i : PanelId) (x : Panel) : (s.setPanel i x).supply = s.supply := rfl
@[simp] theorem State.setPanel_stations (s : State) (i : PanelId) (x : Panel) : (s.setPanel i x).stations = s.stations := rfl
@[simp] theorem State.setPanel_segments (s : State) (i : PanelId) (x : Panel) : (s.setPanel i x).segments = s.segments := rfl
@[simp] theorem State.setPanel_link (s : State) (i : PanelId) (x : Panel) : (s.setPanel i x).link = s.link := rfl
@[simp] theorem State.setPanel_now (s : State) (i : PanelId) (x : Panel) : (s.setPanel i x).now = s.now := rfl
@[simp] theorem State.setPanel_draws (s : State) (i : PanelId) (x : Panel) : (s.setPanel i x).draws = s.draws := rfl
@[simp] theorem State.setPanel_pending (s : State) (i : PanelId) (x : Panel) : (s.setPanel i x).pending = s.pending := rfl

/-! ### `State.setFan` -/

@[simp] theorem State.setFan_part (s : State) (i : FanId) (x : Option Fan) : (s.setFan i x).part = s.part := rfl
@[simp] theorem State.setFan_levels (s : State) (i : FanId) (x : Option Fan) : (s.setFan i x).levels = s.levels := rfl
@[simp] theorem State.setFan_rows (s : State) (i : FanId) (x : Option Fan) : (s.setFan i x).rows = s.rows := rfl
@[simp] theorem State.setFan_tables (s : State) (i : FanId) (x : Option Fan) : (s.setFan i x).tables = s.tables := rfl
@[simp] theorem State.setFan_windows (s : State) (i : FanId) (x : Option Fan) : (s.setFan i x).windows = s.windows := rfl
@[simp] theorem State.setFan_cursor (s : State) (i : FanId) (x : Option Fan) : (s.setFan i x).cursor = s.cursor := rfl
@[simp] theorem State.setFan_recount (s : State) (i : FanId) (x : Option Fan) : (s.setFan i x).recount = s.recount := rfl
@[simp] theorem State.setFan_shadow (s : State) (i : FanId) (x : Option Fan) : (s.setFan i x).shadow = s.shadow := rfl
@[simp] theorem State.setFan_live (s : State) (i : FanId) (x : Option Fan) : (s.setFan i x).live = s.live := rfl
@[simp] theorem State.setFan_zones (s : State) (i : FanId) (x : Option Fan) : (s.setFan i x).zones = s.zones := rfl
@[simp] theorem State.setFan_lanes (s : State) (i : FanId) (x : Option Fan) : (s.setFan i x).lanes = s.lanes := rfl
@[simp] theorem State.setFan_holds (s : State) (i : FanId) (x : Option Fan) : (s.setFan i x).holds = s.holds := rfl
@[simp] theorem State.setFan_holdOrder (s : State) (i : FanId) (x : Option Fan) : (s.setFan i x).holdOrder = s.holdOrder := rfl
@[simp] theorem State.setFan_routes (s : State) (i : FanId) (x : Option Fan) : (s.setFan i x).routes = s.routes := rfl
@[simp] theorem State.setFan_panels (s : State) (i : FanId) (x : Option Fan) : (s.setFan i x).panels = s.panels := rfl
@[simp] theorem State.setFan_fans (s : State) (i : FanId) (x : Option Fan) : (s.setFan i x).fans = put s.fans i x := rfl
@[simp] theorem State.setFan_groups (s : State) (i : FanId) (x : Option Fan) : (s.setFan i x).groups = s.groups := rfl
@[simp] theorem State.setFan_supply (s : State) (i : FanId) (x : Option Fan) : (s.setFan i x).supply = s.supply := rfl
@[simp] theorem State.setFan_stations (s : State) (i : FanId) (x : Option Fan) : (s.setFan i x).stations = s.stations := rfl
@[simp] theorem State.setFan_segments (s : State) (i : FanId) (x : Option Fan) : (s.setFan i x).segments = s.segments := rfl
@[simp] theorem State.setFan_link (s : State) (i : FanId) (x : Option Fan) : (s.setFan i x).link = s.link := rfl
@[simp] theorem State.setFan_now (s : State) (i : FanId) (x : Option Fan) : (s.setFan i x).now = s.now := rfl
@[simp] theorem State.setFan_draws (s : State) (i : FanId) (x : Option Fan) : (s.setFan i x).draws = s.draws := rfl
@[simp] theorem State.setFan_pending (s : State) (i : FanId) (x : Option Fan) : (s.setFan i x).pending = s.pending := rfl

/-! ### `State.setGroup` -/

@[simp] theorem State.setGroup_part (s : State) (i : GroupId) (x : Option Group) : (s.setGroup i x).part = s.part := rfl
@[simp] theorem State.setGroup_levels (s : State) (i : GroupId) (x : Option Group) : (s.setGroup i x).levels = s.levels := rfl
@[simp] theorem State.setGroup_rows (s : State) (i : GroupId) (x : Option Group) : (s.setGroup i x).rows = s.rows := rfl
@[simp] theorem State.setGroup_tables (s : State) (i : GroupId) (x : Option Group) : (s.setGroup i x).tables = s.tables := rfl
@[simp] theorem State.setGroup_windows (s : State) (i : GroupId) (x : Option Group) : (s.setGroup i x).windows = s.windows := rfl
@[simp] theorem State.setGroup_cursor (s : State) (i : GroupId) (x : Option Group) : (s.setGroup i x).cursor = s.cursor := rfl
@[simp] theorem State.setGroup_recount (s : State) (i : GroupId) (x : Option Group) : (s.setGroup i x).recount = s.recount := rfl
@[simp] theorem State.setGroup_shadow (s : State) (i : GroupId) (x : Option Group) : (s.setGroup i x).shadow = s.shadow := rfl
@[simp] theorem State.setGroup_live (s : State) (i : GroupId) (x : Option Group) : (s.setGroup i x).live = s.live := rfl
@[simp] theorem State.setGroup_zones (s : State) (i : GroupId) (x : Option Group) : (s.setGroup i x).zones = s.zones := rfl
@[simp] theorem State.setGroup_lanes (s : State) (i : GroupId) (x : Option Group) : (s.setGroup i x).lanes = s.lanes := rfl
@[simp] theorem State.setGroup_holds (s : State) (i : GroupId) (x : Option Group) : (s.setGroup i x).holds = s.holds := rfl
@[simp] theorem State.setGroup_holdOrder (s : State) (i : GroupId) (x : Option Group) : (s.setGroup i x).holdOrder = s.holdOrder := rfl
@[simp] theorem State.setGroup_routes (s : State) (i : GroupId) (x : Option Group) : (s.setGroup i x).routes = s.routes := rfl
@[simp] theorem State.setGroup_panels (s : State) (i : GroupId) (x : Option Group) : (s.setGroup i x).panels = s.panels := rfl
@[simp] theorem State.setGroup_fans (s : State) (i : GroupId) (x : Option Group) : (s.setGroup i x).fans = s.fans := rfl
@[simp] theorem State.setGroup_groups (s : State) (i : GroupId) (x : Option Group) : (s.setGroup i x).groups = put s.groups i x := rfl
@[simp] theorem State.setGroup_supply (s : State) (i : GroupId) (x : Option Group) : (s.setGroup i x).supply = s.supply := rfl
@[simp] theorem State.setGroup_stations (s : State) (i : GroupId) (x : Option Group) : (s.setGroup i x).stations = s.stations := rfl
@[simp] theorem State.setGroup_segments (s : State) (i : GroupId) (x : Option Group) : (s.setGroup i x).segments = s.segments := rfl
@[simp] theorem State.setGroup_link (s : State) (i : GroupId) (x : Option Group) : (s.setGroup i x).link = s.link := rfl
@[simp] theorem State.setGroup_now (s : State) (i : GroupId) (x : Option Group) : (s.setGroup i x).now = s.now := rfl
@[simp] theorem State.setGroup_draws (s : State) (i : GroupId) (x : Option Group) : (s.setGroup i x).draws = s.draws := rfl
@[simp] theorem State.setGroup_pending (s : State) (i : GroupId) (x : Option Group) : (s.setGroup i x).pending = s.pending := rfl

/-! ### `State.setStation` -/

@[simp] theorem State.setStation_part (s : State) (i : StationId) (x : Station) : (s.setStation i x).part = s.part := rfl
@[simp] theorem State.setStation_levels (s : State) (i : StationId) (x : Station) : (s.setStation i x).levels = s.levels := rfl
@[simp] theorem State.setStation_rows (s : State) (i : StationId) (x : Station) : (s.setStation i x).rows = s.rows := rfl
@[simp] theorem State.setStation_tables (s : State) (i : StationId) (x : Station) : (s.setStation i x).tables = s.tables := rfl
@[simp] theorem State.setStation_windows (s : State) (i : StationId) (x : Station) : (s.setStation i x).windows = s.windows := rfl
@[simp] theorem State.setStation_cursor (s : State) (i : StationId) (x : Station) : (s.setStation i x).cursor = s.cursor := rfl
@[simp] theorem State.setStation_recount (s : State) (i : StationId) (x : Station) : (s.setStation i x).recount = s.recount := rfl
@[simp] theorem State.setStation_shadow (s : State) (i : StationId) (x : Station) : (s.setStation i x).shadow = s.shadow := rfl
@[simp] theorem State.setStation_live (s : State) (i : StationId) (x : Station) : (s.setStation i x).live = s.live := rfl
@[simp] theorem State.setStation_zones (s : State) (i : StationId) (x : Station) : (s.setStation i x).zones = s.zones := rfl
@[simp] theorem State.setStation_lanes (s : State) (i : StationId) (x : Station) : (s.setStation i x).lanes = s.lanes := rfl
@[simp] theorem State.setStation_holds (s : State) (i : StationId) (x : Station) : (s.setStation i x).holds = s.holds := rfl
@[simp] theorem State.setStation_holdOrder (s : State) (i : StationId) (x : Station) : (s.setStation i x).holdOrder = s.holdOrder := rfl
@[simp] theorem State.setStation_routes (s : State) (i : StationId) (x : Station) : (s.setStation i x).routes = s.routes := rfl
@[simp] theorem State.setStation_panels (s : State) (i : StationId) (x : Station) : (s.setStation i x).panels = s.panels := rfl
@[simp] theorem State.setStation_fans (s : State) (i : StationId) (x : Station) : (s.setStation i x).fans = s.fans := rfl
@[simp] theorem State.setStation_groups (s : State) (i : StationId) (x : Station) : (s.setStation i x).groups = s.groups := rfl
@[simp] theorem State.setStation_supply (s : State) (i : StationId) (x : Station) : (s.setStation i x).supply = s.supply := rfl
@[simp] theorem State.setStation_stations (s : State) (i : StationId) (x : Station) : (s.setStation i x).stations = put s.stations i x := rfl
@[simp] theorem State.setStation_segments (s : State) (i : StationId) (x : Station) : (s.setStation i x).segments = s.segments := rfl
@[simp] theorem State.setStation_link (s : State) (i : StationId) (x : Station) : (s.setStation i x).link = s.link := rfl
@[simp] theorem State.setStation_now (s : State) (i : StationId) (x : Station) : (s.setStation i x).now = s.now := rfl
@[simp] theorem State.setStation_draws (s : State) (i : StationId) (x : Station) : (s.setStation i x).draws = s.draws := rfl
@[simp] theorem State.setStation_pending (s : State) (i : StationId) (x : Station) : (s.setStation i x).pending = s.pending := rfl

/-! ### `State.setSegment` -/

@[simp] theorem State.setSegment_part (s : State) (i : Seg) (x : Segment) : (s.setSegment i x).part = s.part := rfl
@[simp] theorem State.setSegment_levels (s : State) (i : Seg) (x : Segment) : (s.setSegment i x).levels = s.levels := rfl
@[simp] theorem State.setSegment_rows (s : State) (i : Seg) (x : Segment) : (s.setSegment i x).rows = s.rows := rfl
@[simp] theorem State.setSegment_tables (s : State) (i : Seg) (x : Segment) : (s.setSegment i x).tables = s.tables := rfl
@[simp] theorem State.setSegment_windows (s : State) (i : Seg) (x : Segment) : (s.setSegment i x).windows = s.windows := rfl
@[simp] theorem State.setSegment_cursor (s : State) (i : Seg) (x : Segment) : (s.setSegment i x).cursor = s.cursor := rfl
@[simp] theorem State.setSegment_recount (s : State) (i : Seg) (x : Segment) : (s.setSegment i x).recount = s.recount := rfl
@[simp] theorem State.setSegment_shadow (s : State) (i : Seg) (x : Segment) : (s.setSegment i x).shadow = s.shadow := rfl
@[simp] theorem State.setSegment_live (s : State) (i : Seg) (x : Segment) : (s.setSegment i x).live = s.live := rfl
@[simp] theorem State.setSegment_zones (s : State) (i : Seg) (x : Segment) : (s.setSegment i x).zones = s.zones := rfl
@[simp] theorem State.setSegment_lanes (s : State) (i : Seg) (x : Segment) : (s.setSegment i x).lanes = s.lanes := rfl
@[simp] theorem State.setSegment_holds (s : State) (i : Seg) (x : Segment) : (s.setSegment i x).holds = s.holds := rfl
@[simp] theorem State.setSegment_holdOrder (s : State) (i : Seg) (x : Segment) : (s.setSegment i x).holdOrder = s.holdOrder := rfl
@[simp] theorem State.setSegment_routes (s : State) (i : Seg) (x : Segment) : (s.setSegment i x).routes = s.routes := rfl
@[simp] theorem State.setSegment_panels (s : State) (i : Seg) (x : Segment) : (s.setSegment i x).panels = s.panels := rfl
@[simp] theorem State.setSegment_fans (s : State) (i : Seg) (x : Segment) : (s.setSegment i x).fans = s.fans := rfl
@[simp] theorem State.setSegment_groups (s : State) (i : Seg) (x : Segment) : (s.setSegment i x).groups = s.groups := rfl
@[simp] theorem State.setSegment_supply (s : State) (i : Seg) (x : Segment) : (s.setSegment i x).supply = s.supply := rfl
@[simp] theorem State.setSegment_stations (s : State) (i : Seg) (x : Segment) : (s.setSegment i x).stations = s.stations := rfl
@[simp] theorem State.setSegment_segments (s : State) (i : Seg) (x : Segment) : (s.setSegment i x).segments = put s.segments i x := rfl
@[simp] theorem State.setSegment_link (s : State) (i : Seg) (x : Segment) : (s.setSegment i x).link = s.link := rfl
@[simp] theorem State.setSegment_now (s : State) (i : Seg) (x : Segment) : (s.setSegment i x).now = s.now := rfl
@[simp] theorem State.setSegment_draws (s : State) (i : Seg) (x : Segment) : (s.setSegment i x).draws = s.draws := rfl
@[simp] theorem State.setSegment_pending (s : State) (i : Seg) (x : Segment) : (s.setSegment i x).pending = s.pending := rfl

/-! ### `State.updZone` -/

@[simp] theorem State.updZone_part (s : State) (z : ZoneId) (f : Zone → Zone) : (s.updZone z f).part = s.part := by
  unfold State.updZone; split <;> rfl
@[simp] theorem State.updZone_levels (s : State) (z : ZoneId) (f : Zone → Zone) : (s.updZone z f).levels = s.levels := by
  unfold State.updZone; split <;> rfl
@[simp] theorem State.updZone_rows (s : State) (z : ZoneId) (f : Zone → Zone) : (s.updZone z f).rows = s.rows := by
  unfold State.updZone; split <;> rfl
@[simp] theorem State.updZone_tables (s : State) (z : ZoneId) (f : Zone → Zone) : (s.updZone z f).tables = s.tables := by
  unfold State.updZone; split <;> rfl
@[simp] theorem State.updZone_windows (s : State) (z : ZoneId) (f : Zone → Zone) : (s.updZone z f).windows = s.windows := by
  unfold State.updZone; split <;> rfl
@[simp] theorem State.updZone_cursor (s : State) (z : ZoneId) (f : Zone → Zone) : (s.updZone z f).cursor = s.cursor := by
  unfold State.updZone; split <;> rfl
@[simp] theorem State.updZone_recount (s : State) (z : ZoneId) (f : Zone → Zone) : (s.updZone z f).recount = s.recount := by
  unfold State.updZone; split <;> rfl
@[simp] theorem State.updZone_shadow (s : State) (z : ZoneId) (f : Zone → Zone) : (s.updZone z f).shadow = s.shadow := by
  unfold State.updZone; split <;> rfl
@[simp] theorem State.updZone_live (s : State) (z : ZoneId) (f : Zone → Zone) : (s.updZone z f).live = s.live := by
  unfold State.updZone; split <;> rfl
@[simp] theorem State.updZone_lanes (s : State) (z : ZoneId) (f : Zone → Zone) : (s.updZone z f).lanes = s.lanes := by
  unfold State.updZone; split <;> rfl
@[simp] theorem State.updZone_holds (s : State) (z : ZoneId) (f : Zone → Zone) : (s.updZone z f).holds = s.holds := by
  unfold State.updZone; split <;> rfl
@[simp] theorem State.updZone_holdOrder (s : State) (z : ZoneId) (f : Zone → Zone) : (s.updZone z f).holdOrder = s.holdOrder := by
  unfold State.updZone; split <;> rfl
@[simp] theorem State.updZone_routes (s : State) (z : ZoneId) (f : Zone → Zone) : (s.updZone z f).routes = s.routes := by
  unfold State.updZone; split <;> rfl
@[simp] theorem State.updZone_panels (s : State) (z : ZoneId) (f : Zone → Zone) : (s.updZone z f).panels = s.panels := by
  unfold State.updZone; split <;> rfl
@[simp] theorem State.updZone_fans (s : State) (z : ZoneId) (f : Zone → Zone) : (s.updZone z f).fans = s.fans := by
  unfold State.updZone; split <;> rfl
@[simp] theorem State.updZone_groups (s : State) (z : ZoneId) (f : Zone → Zone) : (s.updZone z f).groups = s.groups := by
  unfold State.updZone; split <;> rfl
@[simp] theorem State.updZone_supply (s : State) (z : ZoneId) (f : Zone → Zone) : (s.updZone z f).supply = s.supply := by
  unfold State.updZone; split <;> rfl
@[simp] theorem State.updZone_stations (s : State) (z : ZoneId) (f : Zone → Zone) : (s.updZone z f).stations = s.stations := by
  unfold State.updZone; split <;> rfl
@[simp] theorem State.updZone_segments (s : State) (z : ZoneId) (f : Zone → Zone) : (s.updZone z f).segments = s.segments := by
  unfold State.updZone; split <;> rfl
@[simp] theorem State.updZone_link (s : State) (z : ZoneId) (f : Zone → Zone) : (s.updZone z f).link = s.link := by
  unfold State.updZone; split <;> rfl
@[simp] theorem State.updZone_now (s : State) (z : ZoneId) (f : Zone → Zone) : (s.updZone z f).now = s.now := by
  unfold State.updZone; split <;> rfl
@[simp] theorem State.updZone_draws (s : State) (z : ZoneId) (f : Zone → Zone) : (s.updZone z f).draws = s.draws := by
  unfold State.updZone; split <;> rfl
@[simp] theorem State.updZone_pending (s : State) (z : ZoneId) (f : Zone → Zone) : (s.updZone z f).pending = s.pending := by
  unfold State.updZone; split <;> rfl
/-- The record of one entry changed, the others as they were. -/
@[simp] theorem State.updZone_get (s : State) (z : ZoneId) (f : Zone → Zone) (j : ZoneId) :
    (s.updZone z f).zones.get j = if j = z then (s.zones.get j).map f else s.zones.get j := by
  unfold State.updZone
  cases h : s.zones.get z <;> by_cases hj : j = z <;> simp_all

/-! ### `State.updFan` -/

@[simp] theorem State.updFan_part (s : State) (i : FanId) (f : Fan → Fan) : (s.updFan i f).part = s.part := by
  unfold State.updFan; split <;> rfl
@[simp] theorem State.updFan_levels (s : State) (i : FanId) (f : Fan → Fan) : (s.updFan i f).levels = s.levels := by
  unfold State.updFan; split <;> rfl
@[simp] theorem State.updFan_rows (s : State) (i : FanId) (f : Fan → Fan) : (s.updFan i f).rows = s.rows := by
  unfold State.updFan; split <;> rfl
@[simp] theorem State.updFan_tables (s : State) (i : FanId) (f : Fan → Fan) : (s.updFan i f).tables = s.tables := by
  unfold State.updFan; split <;> rfl
@[simp] theorem State.updFan_windows (s : State) (i : FanId) (f : Fan → Fan) : (s.updFan i f).windows = s.windows := by
  unfold State.updFan; split <;> rfl
@[simp] theorem State.updFan_cursor (s : State) (i : FanId) (f : Fan → Fan) : (s.updFan i f).cursor = s.cursor := by
  unfold State.updFan; split <;> rfl
@[simp] theorem State.updFan_recount (s : State) (i : FanId) (f : Fan → Fan) : (s.updFan i f).recount = s.recount := by
  unfold State.updFan; split <;> rfl
@[simp] theorem State.updFan_shadow (s : State) (i : FanId) (f : Fan → Fan) : (s.updFan i f).shadow = s.shadow := by
  unfold State.updFan; split <;> rfl
@[simp] theorem State.updFan_live (s : State) (i : FanId) (f : Fan → Fan) : (s.updFan i f).live = s.live := by
  unfold State.updFan; split <;> rfl
@[simp] theorem State.updFan_zones (s : State) (i : FanId) (f : Fan → Fan) : (s.updFan i f).zones = s.zones := by
  unfold State.updFan; split <;> rfl
@[simp] theorem State.updFan_lanes (s : State) (i : FanId) (f : Fan → Fan) : (s.updFan i f).lanes = s.lanes := by
  unfold State.updFan; split <;> rfl
@[simp] theorem State.updFan_holds (s : State) (i : FanId) (f : Fan → Fan) : (s.updFan i f).holds = s.holds := by
  unfold State.updFan; split <;> rfl
@[simp] theorem State.updFan_holdOrder (s : State) (i : FanId) (f : Fan → Fan) : (s.updFan i f).holdOrder = s.holdOrder := by
  unfold State.updFan; split <;> rfl
@[simp] theorem State.updFan_routes (s : State) (i : FanId) (f : Fan → Fan) : (s.updFan i f).routes = s.routes := by
  unfold State.updFan; split <;> rfl
@[simp] theorem State.updFan_panels (s : State) (i : FanId) (f : Fan → Fan) : (s.updFan i f).panels = s.panels := by
  unfold State.updFan; split <;> rfl
@[simp] theorem State.updFan_groups (s : State) (i : FanId) (f : Fan → Fan) : (s.updFan i f).groups = s.groups := by
  unfold State.updFan; split <;> rfl
@[simp] theorem State.updFan_supply (s : State) (i : FanId) (f : Fan → Fan) : (s.updFan i f).supply = s.supply := by
  unfold State.updFan; split <;> rfl
@[simp] theorem State.updFan_stations (s : State) (i : FanId) (f : Fan → Fan) : (s.updFan i f).stations = s.stations := by
  unfold State.updFan; split <;> rfl
@[simp] theorem State.updFan_segments (s : State) (i : FanId) (f : Fan → Fan) : (s.updFan i f).segments = s.segments := by
  unfold State.updFan; split <;> rfl
@[simp] theorem State.updFan_link (s : State) (i : FanId) (f : Fan → Fan) : (s.updFan i f).link = s.link := by
  unfold State.updFan; split <;> rfl
@[simp] theorem State.updFan_now (s : State) (i : FanId) (f : Fan → Fan) : (s.updFan i f).now = s.now := by
  unfold State.updFan; split <;> rfl
@[simp] theorem State.updFan_draws (s : State) (i : FanId) (f : Fan → Fan) : (s.updFan i f).draws = s.draws := by
  unfold State.updFan; split <;> rfl
@[simp] theorem State.updFan_pending (s : State) (i : FanId) (f : Fan → Fan) : (s.updFan i f).pending = s.pending := by
  unfold State.updFan; split <;> rfl
/-- The record of one entry changed, the others as they were. -/
@[simp] theorem State.updFan_get (s : State) (i : FanId) (f : Fan → Fan) (j : FanId) :
    (s.updFan i f).fans.get j = if j = i then (s.fans.get j).map f else s.fans.get j := by
  unfold State.updFan
  cases h : s.fans.get i <;> by_cases hj : j = i <;> simp_all

/-! ### `State.updGroup` -/

@[simp] theorem State.updGroup_part (s : State) (i : GroupId) (f : Group → Group) : (s.updGroup i f).part = s.part := by
  unfold State.updGroup; split <;> rfl
@[simp] theorem State.updGroup_levels (s : State) (i : GroupId) (f : Group → Group) : (s.updGroup i f).levels = s.levels := by
  unfold State.updGroup; split <;> rfl
@[simp] theorem State.updGroup_rows (s : State) (i : GroupId) (f : Group → Group) : (s.updGroup i f).rows = s.rows := by
  unfold State.updGroup; split <;> rfl
@[simp] theorem State.updGroup_tables (s : State) (i : GroupId) (f : Group → Group) : (s.updGroup i f).tables = s.tables := by
  unfold State.updGroup; split <;> rfl
@[simp] theorem State.updGroup_windows (s : State) (i : GroupId) (f : Group → Group) : (s.updGroup i f).windows = s.windows := by
  unfold State.updGroup; split <;> rfl
@[simp] theorem State.updGroup_cursor (s : State) (i : GroupId) (f : Group → Group) : (s.updGroup i f).cursor = s.cursor := by
  unfold State.updGroup; split <;> rfl
@[simp] theorem State.updGroup_recount (s : State) (i : GroupId) (f : Group → Group) : (s.updGroup i f).recount = s.recount := by
  unfold State.updGroup; split <;> rfl
@[simp] theorem State.updGroup_shadow (s : State) (i : GroupId) (f : Group → Group) : (s.updGroup i f).shadow = s.shadow := by
  unfold State.updGroup; split <;> rfl
@[simp] theorem State.updGroup_live (s : State) (i : GroupId) (f : Group → Group) : (s.updGroup i f).live = s.live := by
  unfold State.updGroup; split <;> rfl
@[simp] theorem State.updGroup_zones (s : State) (i : GroupId) (f : Group → Group) : (s.updGroup i f).zones = s.zones := by
  unfold State.updGroup; split <;> rfl
@[simp] theorem State.updGroup_lanes (s : State) (i : GroupId) (f : Group → Group) : (s.updGroup i f).lanes = s.lanes := by
  unfold State.updGroup; split <;> rfl
@[simp] theorem State.updGroup_holds (s : State) (i : GroupId) (f : Group → Group) : (s.updGroup i f).holds = s.holds := by
  unfold State.updGroup; split <;> rfl
@[simp] theorem State.updGroup_holdOrder (s : State) (i : GroupId) (f : Group → Group) : (s.updGroup i f).holdOrder = s.holdOrder := by
  unfold State.updGroup; split <;> rfl
@[simp] theorem State.updGroup_routes (s : State) (i : GroupId) (f : Group → Group) : (s.updGroup i f).routes = s.routes := by
  unfold State.updGroup; split <;> rfl
@[simp] theorem State.updGroup_panels (s : State) (i : GroupId) (f : Group → Group) : (s.updGroup i f).panels = s.panels := by
  unfold State.updGroup; split <;> rfl
@[simp] theorem State.updGroup_fans (s : State) (i : GroupId) (f : Group → Group) : (s.updGroup i f).fans = s.fans := by
  unfold State.updGroup; split <;> rfl
@[simp] theorem State.updGroup_supply (s : State) (i : GroupId) (f : Group → Group) : (s.updGroup i f).supply = s.supply := by
  unfold State.updGroup; split <;> rfl
@[simp] theorem State.updGroup_stations (s : State) (i : GroupId) (f : Group → Group) : (s.updGroup i f).stations = s.stations := by
  unfold State.updGroup; split <;> rfl
@[simp] theorem State.updGroup_segments (s : State) (i : GroupId) (f : Group → Group) : (s.updGroup i f).segments = s.segments := by
  unfold State.updGroup; split <;> rfl
@[simp] theorem State.updGroup_link (s : State) (i : GroupId) (f : Group → Group) : (s.updGroup i f).link = s.link := by
  unfold State.updGroup; split <;> rfl
@[simp] theorem State.updGroup_now (s : State) (i : GroupId) (f : Group → Group) : (s.updGroup i f).now = s.now := by
  unfold State.updGroup; split <;> rfl
@[simp] theorem State.updGroup_draws (s : State) (i : GroupId) (f : Group → Group) : (s.updGroup i f).draws = s.draws := by
  unfold State.updGroup; split <;> rfl
@[simp] theorem State.updGroup_pending (s : State) (i : GroupId) (f : Group → Group) : (s.updGroup i f).pending = s.pending := by
  unfold State.updGroup; split <;> rfl
/-- The record of one entry changed, the others as they were. -/
@[simp] theorem State.updGroup_get (s : State) (i : GroupId) (f : Group → Group) (j : GroupId) :
    (s.updGroup i f).groups.get j = if j = i then (s.groups.get j).map f else s.groups.get j := by
  unfold State.updGroup
  cases h : s.groups.get i <;> by_cases hj : j = i <;> simp_all

/-! ### `State.updPanel` -/

@[simp] theorem State.updPanel_part (s : State) (i : PanelId) (f : Panel → Panel) : (s.updPanel i f).part = s.part := rfl
@[simp] theorem State.updPanel_levels (s : State) (i : PanelId) (f : Panel → Panel) : (s.updPanel i f).levels = s.levels := rfl
@[simp] theorem State.updPanel_rows (s : State) (i : PanelId) (f : Panel → Panel) : (s.updPanel i f).rows = s.rows := rfl
@[simp] theorem State.updPanel_tables (s : State) (i : PanelId) (f : Panel → Panel) : (s.updPanel i f).tables = s.tables := rfl
@[simp] theorem State.updPanel_windows (s : State) (i : PanelId) (f : Panel → Panel) : (s.updPanel i f).windows = s.windows := rfl
@[simp] theorem State.updPanel_cursor (s : State) (i : PanelId) (f : Panel → Panel) : (s.updPanel i f).cursor = s.cursor := rfl
@[simp] theorem State.updPanel_recount (s : State) (i : PanelId) (f : Panel → Panel) : (s.updPanel i f).recount = s.recount := rfl
@[simp] theorem State.updPanel_shadow (s : State) (i : PanelId) (f : Panel → Panel) : (s.updPanel i f).shadow = s.shadow := rfl
@[simp] theorem State.updPanel_live (s : State) (i : PanelId) (f : Panel → Panel) : (s.updPanel i f).live = s.live := rfl
@[simp] theorem State.updPanel_zones (s : State) (i : PanelId) (f : Panel → Panel) : (s.updPanel i f).zones = s.zones := rfl
@[simp] theorem State.updPanel_lanes (s : State) (i : PanelId) (f : Panel → Panel) : (s.updPanel i f).lanes = s.lanes := rfl
@[simp] theorem State.updPanel_holds (s : State) (i : PanelId) (f : Panel → Panel) : (s.updPanel i f).holds = s.holds := rfl
@[simp] theorem State.updPanel_holdOrder (s : State) (i : PanelId) (f : Panel → Panel) : (s.updPanel i f).holdOrder = s.holdOrder := rfl
@[simp] theorem State.updPanel_routes (s : State) (i : PanelId) (f : Panel → Panel) : (s.updPanel i f).routes = s.routes := rfl
@[simp] theorem State.updPanel_panels (s : State) (i : PanelId) (f : Panel → Panel) : (s.updPanel i f).panels = put s.panels i (f (s.panels.get i)) := rfl
@[simp] theorem State.updPanel_fans (s : State) (i : PanelId) (f : Panel → Panel) : (s.updPanel i f).fans = s.fans := rfl
@[simp] theorem State.updPanel_groups (s : State) (i : PanelId) (f : Panel → Panel) : (s.updPanel i f).groups = s.groups := rfl
@[simp] theorem State.updPanel_supply (s : State) (i : PanelId) (f : Panel → Panel) : (s.updPanel i f).supply = s.supply := rfl
@[simp] theorem State.updPanel_stations (s : State) (i : PanelId) (f : Panel → Panel) : (s.updPanel i f).stations = s.stations := rfl
@[simp] theorem State.updPanel_segments (s : State) (i : PanelId) (f : Panel → Panel) : (s.updPanel i f).segments = s.segments := rfl
@[simp] theorem State.updPanel_link (s : State) (i : PanelId) (f : Panel → Panel) : (s.updPanel i f).link = s.link := rfl
@[simp] theorem State.updPanel_now (s : State) (i : PanelId) (f : Panel → Panel) : (s.updPanel i f).now = s.now := rfl
@[simp] theorem State.updPanel_draws (s : State) (i : PanelId) (f : Panel → Panel) : (s.updPanel i f).draws = s.draws := rfl
@[simp] theorem State.updPanel_pending (s : State) (i : PanelId) (f : Panel → Panel) : (s.updPanel i f).pending = s.pending := rfl

/-! ### `State.updLane` -/

@[simp] theorem State.updLane_part (s : State) (i : LaneId) (f : Lane → Lane) : (s.updLane i f).part = s.part := rfl
@[simp] theorem State.updLane_levels (s : State) (i : LaneId) (f : Lane → Lane) : (s.updLane i f).levels = s.levels := rfl
@[simp] theorem State.updLane_rows (s : State) (i : LaneId) (f : Lane → Lane) : (s.updLane i f).rows = s.rows := rfl
@[simp] theorem State.updLane_tables (s : State) (i : LaneId) (f : Lane → Lane) : (s.updLane i f).tables = s.tables := rfl
@[simp] theorem State.updLane_windows (s : State) (i : LaneId) (f : Lane → Lane) : (s.updLane i f).windows = s.windows := rfl
@[simp] theorem State.updLane_cursor (s : State) (i : LaneId) (f : Lane → Lane) : (s.updLane i f).cursor = s.cursor := rfl
@[simp] theorem State.updLane_recount (s : State) (i : LaneId) (f : Lane → Lane) : (s.updLane i f).recount = s.recount := rfl
@[simp] theorem State.updLane_shadow (s : State) (i : LaneId) (f : Lane → Lane) : (s.updLane i f).shadow = s.shadow := rfl
@[simp] theorem State.updLane_live (s : State) (i : LaneId) (f : Lane → Lane) : (s.updLane i f).live = s.live := rfl
@[simp] theorem State.updLane_zones (s : State) (i : LaneId) (f : Lane → Lane) : (s.updLane i f).zones = s.zones := rfl
@[simp] theorem State.updLane_lanes (s : State) (i : LaneId) (f : Lane → Lane) : (s.updLane i f).lanes = put s.lanes i (f (s.lanes.get i)) := rfl
@[simp] theorem State.updLane_holds (s : State) (i : LaneId) (f : Lane → Lane) : (s.updLane i f).holds = s.holds := rfl
@[simp] theorem State.updLane_holdOrder (s : State) (i : LaneId) (f : Lane → Lane) : (s.updLane i f).holdOrder = s.holdOrder := rfl
@[simp] theorem State.updLane_routes (s : State) (i : LaneId) (f : Lane → Lane) : (s.updLane i f).routes = s.routes := rfl
@[simp] theorem State.updLane_panels (s : State) (i : LaneId) (f : Lane → Lane) : (s.updLane i f).panels = s.panels := rfl
@[simp] theorem State.updLane_fans (s : State) (i : LaneId) (f : Lane → Lane) : (s.updLane i f).fans = s.fans := rfl
@[simp] theorem State.updLane_groups (s : State) (i : LaneId) (f : Lane → Lane) : (s.updLane i f).groups = s.groups := rfl
@[simp] theorem State.updLane_supply (s : State) (i : LaneId) (f : Lane → Lane) : (s.updLane i f).supply = s.supply := rfl
@[simp] theorem State.updLane_stations (s : State) (i : LaneId) (f : Lane → Lane) : (s.updLane i f).stations = s.stations := rfl
@[simp] theorem State.updLane_segments (s : State) (i : LaneId) (f : Lane → Lane) : (s.updLane i f).segments = s.segments := rfl
@[simp] theorem State.updLane_link (s : State) (i : LaneId) (f : Lane → Lane) : (s.updLane i f).link = s.link := rfl
@[simp] theorem State.updLane_now (s : State) (i : LaneId) (f : Lane → Lane) : (s.updLane i f).now = s.now := rfl
@[simp] theorem State.updLane_draws (s : State) (i : LaneId) (f : Lane → Lane) : (s.updLane i f).draws = s.draws := rfl
@[simp] theorem State.updLane_pending (s : State) (i : LaneId) (f : Lane → Lane) : (s.updLane i f).pending = s.pending := rfl

/-! ### `State.updStation` -/

@[simp] theorem State.updStation_part (s : State) (i : StationId) (f : Station → Station) : (s.updStation i f).part = s.part := rfl
@[simp] theorem State.updStation_levels (s : State) (i : StationId) (f : Station → Station) : (s.updStation i f).levels = s.levels := rfl
@[simp] theorem State.updStation_rows (s : State) (i : StationId) (f : Station → Station) : (s.updStation i f).rows = s.rows := rfl
@[simp] theorem State.updStation_tables (s : State) (i : StationId) (f : Station → Station) : (s.updStation i f).tables = s.tables := rfl
@[simp] theorem State.updStation_windows (s : State) (i : StationId) (f : Station → Station) : (s.updStation i f).windows = s.windows := rfl
@[simp] theorem State.updStation_cursor (s : State) (i : StationId) (f : Station → Station) : (s.updStation i f).cursor = s.cursor := rfl
@[simp] theorem State.updStation_recount (s : State) (i : StationId) (f : Station → Station) : (s.updStation i f).recount = s.recount := rfl
@[simp] theorem State.updStation_shadow (s : State) (i : StationId) (f : Station → Station) : (s.updStation i f).shadow = s.shadow := rfl
@[simp] theorem State.updStation_live (s : State) (i : StationId) (f : Station → Station) : (s.updStation i f).live = s.live := rfl
@[simp] theorem State.updStation_zones (s : State) (i : StationId) (f : Station → Station) : (s.updStation i f).zones = s.zones := rfl
@[simp] theorem State.updStation_lanes (s : State) (i : StationId) (f : Station → Station) : (s.updStation i f).lanes = s.lanes := rfl
@[simp] theorem State.updStation_holds (s : State) (i : StationId) (f : Station → Station) : (s.updStation i f).holds = s.holds := rfl
@[simp] theorem State.updStation_holdOrder (s : State) (i : StationId) (f : Station → Station) : (s.updStation i f).holdOrder = s.holdOrder := rfl
@[simp] theorem State.updStation_routes (s : State) (i : StationId) (f : Station → Station) : (s.updStation i f).routes = s.routes := rfl
@[simp] theorem State.updStation_panels (s : State) (i : StationId) (f : Station → Station) : (s.updStation i f).panels = s.panels := rfl
@[simp] theorem State.updStation_fans (s : State) (i : StationId) (f : Station → Station) : (s.updStation i f).fans = s.fans := rfl
@[simp] theorem State.updStation_groups (s : State) (i : StationId) (f : Station → Station) : (s.updStation i f).groups = s.groups := rfl
@[simp] theorem State.updStation_supply (s : State) (i : StationId) (f : Station → Station) : (s.updStation i f).supply = s.supply := rfl
@[simp] theorem State.updStation_stations (s : State) (i : StationId) (f : Station → Station) : (s.updStation i f).stations = put s.stations i (f (s.stations.get i)) := rfl
@[simp] theorem State.updStation_segments (s : State) (i : StationId) (f : Station → Station) : (s.updStation i f).segments = s.segments := rfl
@[simp] theorem State.updStation_link (s : State) (i : StationId) (f : Station → Station) : (s.updStation i f).link = s.link := rfl
@[simp] theorem State.updStation_now (s : State) (i : StationId) (f : Station → Station) : (s.updStation i f).now = s.now := rfl
@[simp] theorem State.updStation_draws (s : State) (i : StationId) (f : Station → Station) : (s.updStation i f).draws = s.draws := rfl
@[simp] theorem State.updStation_pending (s : State) (i : StationId) (f : Station → Station) : (s.updStation i f).pending = s.pending := rfl

/-! ### `State.updSegment` -/

@[simp] theorem State.updSegment_part (s : State) (i : Seg) (f : Segment → Segment) : (s.updSegment i f).part = s.part := rfl
@[simp] theorem State.updSegment_levels (s : State) (i : Seg) (f : Segment → Segment) : (s.updSegment i f).levels = s.levels := rfl
@[simp] theorem State.updSegment_rows (s : State) (i : Seg) (f : Segment → Segment) : (s.updSegment i f).rows = s.rows := rfl
@[simp] theorem State.updSegment_tables (s : State) (i : Seg) (f : Segment → Segment) : (s.updSegment i f).tables = s.tables := rfl
@[simp] theorem State.updSegment_windows (s : State) (i : Seg) (f : Segment → Segment) : (s.updSegment i f).windows = s.windows := rfl
@[simp] theorem State.updSegment_cursor (s : State) (i : Seg) (f : Segment → Segment) : (s.updSegment i f).cursor = s.cursor := rfl
@[simp] theorem State.updSegment_recount (s : State) (i : Seg) (f : Segment → Segment) : (s.updSegment i f).recount = s.recount := rfl
@[simp] theorem State.updSegment_shadow (s : State) (i : Seg) (f : Segment → Segment) : (s.updSegment i f).shadow = s.shadow := rfl
@[simp] theorem State.updSegment_live (s : State) (i : Seg) (f : Segment → Segment) : (s.updSegment i f).live = s.live := rfl
@[simp] theorem State.updSegment_zones (s : State) (i : Seg) (f : Segment → Segment) : (s.updSegment i f).zones = s.zones := rfl
@[simp] theorem State.updSegment_lanes (s : State) (i : Seg) (f : Segment → Segment) : (s.updSegment i f).lanes = s.lanes := rfl
@[simp] theorem State.updSegment_holds (s : State) (i : Seg) (f : Segment → Segment) : (s.updSegment i f).holds = s.holds := rfl
@[simp] theorem State.updSegment_holdOrder (s : State) (i : Seg) (f : Segment → Segment) : (s.updSegment i f).holdOrder = s.holdOrder := rfl
@[simp] theorem State.updSegment_routes (s : State) (i : Seg) (f : Segment → Segment) : (s.updSegment i f).routes = s.routes := rfl
@[simp] theorem State.updSegment_panels (s : State) (i : Seg) (f : Segment → Segment) : (s.updSegment i f).panels = s.panels := rfl
@[simp] theorem State.updSegment_fans (s : State) (i : Seg) (f : Segment → Segment) : (s.updSegment i f).fans = s.fans := rfl
@[simp] theorem State.updSegment_groups (s : State) (i : Seg) (f : Segment → Segment) : (s.updSegment i f).groups = s.groups := rfl
@[simp] theorem State.updSegment_supply (s : State) (i : Seg) (f : Segment → Segment) : (s.updSegment i f).supply = s.supply := rfl
@[simp] theorem State.updSegment_stations (s : State) (i : Seg) (f : Segment → Segment) : (s.updSegment i f).stations = s.stations := rfl
@[simp] theorem State.updSegment_segments (s : State) (i : Seg) (f : Segment → Segment) : (s.updSegment i f).segments = put s.segments i (f (s.segments.get i)) := rfl
@[simp] theorem State.updSegment_link (s : State) (i : Seg) (f : Segment → Segment) : (s.updSegment i f).link = s.link := rfl
@[simp] theorem State.updSegment_now (s : State) (i : Seg) (f : Segment → Segment) : (s.updSegment i f).now = s.now := rfl
@[simp] theorem State.updSegment_draws (s : State) (i : Seg) (f : Segment → Segment) : (s.updSegment i f).draws = s.draws := rfl
@[simp] theorem State.updSegment_pending (s : State) (i : Seg) (f : Segment → Segment) : (s.updSegment i f).pending = s.pending := rfl

/-! ### `Ev` -/

@[simp] theorem Ev.mapS_s (e : Ev) (f : State → State) : (e.mapS f).s = f e.s := rfl
@[simp] theorem Ev.mapS_fresh (e : Ev) (g : State → State) : (e.mapS g).fresh = e.fresh := rfl
@[simp] theorem Ev.mapS_assign (e : Ev) (g : State → State) : (e.mapS g).assign = e.assign := rfl
@[simp] theorem Ev.mapS_retry (e : Ev) (g : State → State) : (e.mapS g).retry = e.retry := rfl
@[simp] theorem Ev.mapS_groups (e : Ev) (g : State → State) : (e.mapS g).groups = e.groups := rfl
@[simp] theorem Ev.mapS_resume (e : Ev) (g : State → State) : (e.mapS g).resume = e.resume := rfl
@[simp] theorem Ev.mapS_fans (e : Ev) (g : State → State) : (e.mapS g).fans = e.fans := rfl
@[simp] theorem Ev.mapS_panelZones (e : Ev) (g : State → State) : (e.mapS g).panelZones = e.panelZones := rfl
@[simp] theorem Ev.mapS_panelLanes (e : Ev) (g : State → State) : (e.mapS g).panelLanes = e.panelLanes := rfl
@[simp] theorem Ev.mapS_panelsAll (e : Ev) (g : State → State) : (e.mapS g).panelsAll = e.panelsAll := rfl
@[simp] theorem Ev.mapS_sched (e : Ev) (g : State → State) : (e.mapS g).sched = e.sched := rfl
@[simp] theorem Ev.mapS_judgeRun (e : Ev) (g : State → State) : (e.mapS g).judgeRun = e.judgeRun := rfl
@[simp] theorem Ev.mapS_judgeStop (e : Ev) (g : State → State) : (e.mapS g).judgeStop = e.judgeStop := rfl
@[simp] theorem Ev.mapS_enteredConfig (e : Ev) (g : State → State) : (e.mapS g).enteredConfig = e.enteredConfig := rfl
@[simp] theorem Ev.begin_s (s : State) : (Ev.begin s).s = s := rfl
@[simp] theorem Ev.markAssign_s (e : Ev) (l : LaneId) : (e.markAssign l).s = e.s := rfl
@[simp] theorem Ev.markRetry_s (e : Ev) : (e.markRetry).s = e.s := rfl
@[simp] theorem Ev.markGroup_s (e : Ev) (g : GroupId) : (e.markGroup g).s = e.s := rfl
@[simp] theorem Ev.markResume_s (e : Ev) (g : GroupId) : (e.markResume g).s = e.s := rfl
@[simp] theorem Ev.markFan_s (e : Ev) (f : FanId) : (e.markFan f).s = e.s := rfl
@[simp] theorem Ev.markPanelZone_s (e : Ev) (z : ZoneId) : (e.markPanelZone z).s = e.s := rfl
@[simp] theorem Ev.markPanelLane_s (e : Ev) (l : LaneId) : (e.markPanelLane l).s = e.s := rfl
@[simp] theorem Ev.markStop_s (e : Ev) : (e.markStop).s = e.s := rfl
@[simp] theorem Ev.markRun_s (e : Ev) : (e.markRun).s = e.s := rfl
@[simp] theorem Ev.queueReply_s (e : Ev) (tag : Byte) (r : Reply) :
    (e.queueReply tag r).s = e.s.setLink { e.s.link with waiting := some (r.frame tag) } := rfl
@[simp] theorem State.judgeOver_part (s : State) : s.judgeOver.part = s.part := by
  unfold State.judgeOver; split <;> rfl
@[simp] theorem State.judgeOver_levels (s : State) : s.judgeOver.levels = s.levels := by
  unfold State.judgeOver; split <;> rfl
@[simp] theorem State.judgeOver_rows (s : State) : s.judgeOver.rows = s.rows := by
  unfold State.judgeOver; split <;> rfl
@[simp] theorem State.judgeOver_tables (s : State) : s.judgeOver.tables = s.tables := by
  unfold State.judgeOver; split <;> rfl
@[simp] theorem State.judgeOver_windows (s : State) : s.judgeOver.windows = s.windows := by
  unfold State.judgeOver; split <;> rfl
@[simp] theorem State.judgeOver_cursor (s : State) : s.judgeOver.cursor = s.cursor := by
  unfold State.judgeOver; split <;> rfl
@[simp] theorem State.judgeOver_recount (s : State) : s.judgeOver.recount = s.recount := by
  unfold State.judgeOver; split <;> rfl
@[simp] theorem State.judgeOver_shadow (s : State) : s.judgeOver.shadow = s.shadow := by
  unfold State.judgeOver; split <;> rfl
@[simp] theorem State.judgeOver_live (s : State) : s.judgeOver.live = s.live := by
  unfold State.judgeOver; split <;> rfl
@[simp] theorem State.judgeOver_zones (s : State) : s.judgeOver.zones = s.zones := by
  unfold State.judgeOver; split <;> rfl
@[simp] theorem State.judgeOver_lanes (s : State) : s.judgeOver.lanes = s.lanes := by
  unfold State.judgeOver; split <;> rfl
@[simp] theorem State.judgeOver_holds (s : State) : s.judgeOver.holds = s.holds := by
  unfold State.judgeOver; split <;> rfl
@[simp] theorem State.judgeOver_holdOrder (s : State) : s.judgeOver.holdOrder = s.holdOrder := by
  unfold State.judgeOver; split <;> rfl
@[simp] theorem State.judgeOver_routes (s : State) : s.judgeOver.routes = s.routes := by
  unfold State.judgeOver; split <;> rfl
@[simp] theorem State.judgeOver_panels (s : State) : s.judgeOver.panels = s.panels := by
  unfold State.judgeOver; split <;> rfl
@[simp] theorem State.judgeOver_fans (s : State) : s.judgeOver.fans = s.fans := by
  unfold State.judgeOver; split <;> rfl
@[simp] theorem State.judgeOver_groups (s : State) : s.judgeOver.groups = s.groups := by
  unfold State.judgeOver; split <;> rfl
@[simp] theorem State.judgeOver_stations (s : State) : s.judgeOver.stations = s.stations := by
  unfold State.judgeOver; split <;> rfl
@[simp] theorem State.judgeOver_segments (s : State) : s.judgeOver.segments = s.segments := by
  unfold State.judgeOver; split <;> rfl
@[simp] theorem State.judgeOver_link (s : State) : s.judgeOver.link = s.link := by
  unfold State.judgeOver; split <;> rfl
@[simp] theorem State.judgeOver_now (s : State) : s.judgeOver.now = s.now := by
  unfold State.judgeOver; split <;> rfl
@[simp] theorem State.judgeOver_draws (s : State) : s.judgeOver.draws = s.draws := by
  unfold State.judgeOver; split <;> rfl
@[simp] theorem State.judgeOver_pending (s : State) : s.judgeOver.pending = s.pending := by
  unfold State.judgeOver; split <;> rfl

/-! ### The end of a closed event -/

@[simp] theorem Ev.close_part (e : Ev) : e.close.part = e.s.part := by simp [Ev.close]
@[simp] theorem Ev.close_levels (e : Ev) : e.close.levels = e.s.levels := by simp [Ev.close]
@[simp] theorem Ev.close_rows (e : Ev) : e.close.rows = e.s.rows := by simp [Ev.close]
@[simp] theorem Ev.close_tables (e : Ev) : e.close.tables = e.s.tables := by simp [Ev.close]
@[simp] theorem Ev.close_windows (e : Ev) : e.close.windows = e.s.windows := by simp [Ev.close]
@[simp] theorem Ev.close_cursor (e : Ev) : e.close.cursor = e.s.cursor := by simp [Ev.close]
@[simp] theorem Ev.close_recount (e : Ev) : e.close.recount = e.s.recount := by simp [Ev.close]
@[simp] theorem Ev.close_shadow (e : Ev) : e.close.shadow = e.s.shadow := by simp [Ev.close]
@[simp] theorem Ev.close_live (e : Ev) : e.close.live = e.s.live := by simp [Ev.close]
@[simp] theorem Ev.close_zones (e : Ev) : e.close.zones = e.s.zones := by simp [Ev.close]
@[simp] theorem Ev.close_lanes (e : Ev) : e.close.lanes = e.s.lanes := by simp [Ev.close]
@[simp] theorem Ev.close_holds (e : Ev) : e.close.holds = e.s.holds := by simp [Ev.close]
@[simp] theorem Ev.close_holdOrder (e : Ev) : e.close.holdOrder = e.s.holdOrder := by simp [Ev.close]
@[simp] theorem Ev.close_routes (e : Ev) : e.close.routes = e.s.routes := by simp [Ev.close]
@[simp] theorem Ev.close_panels (e : Ev) : e.close.panels = e.s.panels := by simp [Ev.close]
@[simp] theorem Ev.close_fans (e : Ev) : e.close.fans = e.s.fans := by simp [Ev.close]
@[simp] theorem Ev.close_groups (e : Ev) : e.close.groups = e.s.groups := by simp [Ev.close]
@[simp] theorem Ev.close_stations (e : Ev) : e.close.stations = e.s.stations := by simp [Ev.close]
@[simp] theorem Ev.close_segments (e : Ev) : e.close.segments = e.s.segments := by simp [Ev.close]
@[simp] theorem Ev.close_now (e : Ev) : e.close.now = e.s.now := by simp [Ev.close]
@[simp] theorem Ev.close_draws (e : Ev) : e.close.draws = e.s.draws := by simp [Ev.close]
@[simp] theorem Ev.close_pending (e : Ev) : e.close.pending = e.s.pending := by simp [Ev.close]
@[simp] theorem Ev.close_link (e : Ev) : e.close.link = (e.s.link.join e.fresh).pump := rfl
@[simp] theorem Ev.close_supply (e : Ev) : e.close.supply = e.s.judgeOver.supply := rfl

end Sys2Proof.Machine
end

