-- ==== Sys2Proof/Laws/Derived.lean ====
section
/-!
SUPPORT. What the derivations at the end of an event do: the conditions of a ramp's step (R130), what the judgement of
the marked fans keeps, and the wanted content of one panel (R78) with all that it reads.
-/

namespace Sys2Proof.Machine

/-! ### Ramps (R130) -/

/-- The conditions of R130 as a step judges them are those of the law of ramps. -/
theorem Fan.mayStep_iff_due (x : Fan) (deferred : Option Nat) : x.mayStep deferred.isSome = true ↔ x.due deferred := by
  cases deferred <;> simp [Fan.mayStep, Fan.due, and_assoc]

/-- A fan whose ramp is IDLE and whose conditions hold takes a step; any other is left alone. -/
theorem Ev.tryRamp_eq {e : Ev} {f : FanId} {x : Fan} (h : e.s.fans.get f = some x)
    [Decidable (x.ramp = none ∧ x.due (e.s.supply.deferredFans.get f))] :
    e.tryRamp f = if x.ramp = none ∧ x.due (e.s.supply.deferredFans.get f) then e.rampStep f x else e := by
  simp only [Ev.tryRamp, h, Bool.and_eq_true, Option.isNone_iff_eq_none, Fan.mayStep_iff_due]

/-- What every judgement of a marked fan keeps, the judgement of all of them keeps. -/
theorem Ev.rampMarked_keeps {P : Ev → Prop}
    (h : ∀ (e : Ev) (f : FanId), P e → f ∈ e.fans → P (({ e with fans := e.fans.filter (· != f) } : Ev).tryRamp f)) :
    ∀ (n : Nat) (e : Ev), P e → P (Ev.rampMarked n e)
  | 0, _, he => he
  | n + 1, e, he => by
    unfold Ev.rampMarked
    split
    · exact he
    · next f hf => exact Ev.rampMarked_keeps h n _ (h e f he (by simpa using List.find?_some hf))

/-! ### Panels (R78 to R81) -/

/-- The panels that read nothing but the counts and the holds of zones, whether these are CLOSED, and the heads of
lanes: where those agree, so does the content. -/
theorem State.contentOf_congr {s t : State} (hn : ∀ z b, s.netFree z b = t.netFree z b)
    (hz : ∀ z, s.zoneClosed z = t.zoneClosed z) (hl : ∀ l, (s.lanes.get l).content = (t.lanes.get l).content)
    (k : PanelKind) : s.contentOf k = t.contentOf k := by
  have hm (mask : BitVec 8) (z : ZoneId) : s.maskedFree mask z = t.maskedFree mask z := by
    simp only [State.maskedFree, hn]
  cases k with
  | none => rfl
  | count zones mask =>
    have h1 : zones.map (s.maskedFree mask) = zones.map (t.maskedFree mask) := List.map_congr_left fun z _ => hm mask z
    have h2 : zones.all s.zoneClosed = zones.all t.zoneClosed := by rw [funext hz]
    simp only [State.contentOf, State.countContent, h1, h2]
  | zoneArrow fields mask =>
    have h : s.arrowEntry mask = t.arrowEntry mask := funext fun f => by simp only [State.arrowEntry, hz, hm]
    simp only [State.contentOf, h]
  | lane l => simp only [State.contentOf, hl]

theorem Ev.derivePanel_panel (e : Ev) (i j : PanelId) : (e.derivePanel i).s.panels.get j =
    if j = i then { e.s.panels.get j with wanted := e.s.contentOf (e.s.panels.get j).kind } else e.s.panels.get j := by
  split
  · next h => subst h; simp [Ev.derivePanel, Ev.mapS, State.updPanel, State.setPanel]
  · next h => simp [Ev.derivePanel, Ev.mapS, State.updPanel, State.setPanel, h]

theorem Ev.derivePanel_contentOf (e : Ev) (i : PanelId) (k : PanelKind) :
    (e.derivePanel i).s.contentOf k = e.s.contentOf k :=
  State.contentOf_congr (fun _ _ => rfl) (fun _ => rfl) (fun _ => rfl) k

/-- One panel after the derivation of the event's panels: outside CONFIG a panel that is touched takes the content its
kind ought to show, and keeps everything else; any other stays. -/
theorem Ev.derivePanels_panel (e : Ev) (i : PanelId) : e.derivePanels.s.panels.get i =
    if e.s.part ≠ .config ∧ (e.panelsAll || (e.s.panels.get i).kind.touched e) = true
    then { e.s.panels.get i with wanted := e.s.contentOf (e.s.panels.get i).kind } else e.s.panels.get i := by
  have fold (l : List PanelId) (hl : l.Nodup) (e' : Ev) (hc : ∀ k, e'.s.contentOf k = e.s.contentOf k)
      (hp : ∀ j ∈ l, e'.s.panels.get j = e.s.panels.get j) :
      (l.foldl (fun e' i => if e.panelsAll || (e.s.panels.get i).kind.touched e then e'.derivePanel i else e') e').s.panels.get
        i = if i ∈ l ∧ (e.panelsAll || (e.s.panels.get i).kind.touched e) = true
          then { e.s.panels.get i with wanted := e.s.contentOf (e.s.panels.get i).kind } else e'.s.panels.get i := by
    induction l generalizing e' with
    | nil => simp
    | cons j l ih =>
      obtain ⟨hj, hl⟩ := List.nodup_cons.mp hl
      rw [List.foldl_cons]
      by_cases ht : (e.panelsAll || (e.s.panels.get j).kind.touched e) = true
      · rw [if_pos ht, ih hl _ (fun k => by rw [Ev.derivePanel_contentOf, hc])
          (fun k hk => by
            rw [Ev.derivePanel_panel, if_neg (by rintro rfl; exact hj hk)]; exact hp k (List.mem_cons_of_mem _ hk)),
          Ev.derivePanel_panel]
        by_cases hi : i = j
        · subst hi
          rw [if_neg (fun h => hj h.1), if_pos rfl, if_pos ⟨List.mem_cons_self, ht⟩, hc, hp i List.mem_cons_self]
        · simp [hi]
      · rw [if_neg ht, ih hl e' hc fun k hk => hp k (List.mem_cons_of_mem _ hk)]
        by_cases hi : i = j
        · subst hi
          rw [if_neg (fun h => ht h.2), if_neg (fun h => ht h.2)]
        · simp [hi]
  unfold Ev.derivePanels
  split
  · next h => simp [h]
  · next h =>
    rw [fold (List.finRange 32) (List.nodup_finRange 32) e (fun _ => rfl) fun _ _ => rfl]
    simp [h]

end Sys2Proof.Machine
end

