-- ==== Sys2Proof/Laws/Quiet.lean ====
section
/-!
SUPPORT. What the end of an event does when no unit has work left for it: nothing but the closing.
-/

namespace Sys2Proof.Machine

/-- No unit has work left for the end of the event; new notices may wait. -/
structure Ev.Quiet (e : Ev) : Prop where
  assign : e.assign = []
  retry : e.retry = false
  groups : e.groups = []
  resume : e.resume = []
  fans : e.fans = []
  panelZones : e.panelZones = []
  panelLanes : e.panelLanes = []
  panelsAll : e.panelsAll = false
  sched : e.sched = []
  judgeRun : e.judgeRun = false
  judgeStop : e.judgeStop = false

theorem Ev.begin_quiet (s : State) : (Ev.begin s).Quiet := ⟨rfl, rfl, rfl, rfl, rfl, rfl, rfl, rfl, rfl, rfl, rfl⟩

theorem Ev.Quiet.mapS {e : Ev} (h : e.Quiet) (f : State → State) : (e.mapS f).Quiet :=
  ⟨h.assign, h.retry, h.groups, h.resume, h.fans, h.panelZones, h.panelLanes, h.panelsAll, h.sched, h.judgeRun,
    h.judgeStop⟩

theorem Ev.Quiet.queueReply {e : Ev} (h : e.Quiet) (tag : Byte) (r : Reply) : (e.queueReply tag r).Quiet := h.mapS _

theorem Ev.Quiet.raise {e : Ev} (h : e.Quiet) (k : NoticeKind) (subject : Nat) (data : List Byte) :
    (e.raise k subject data).Quiet := by
  unfold Ev.raise
  dsimp only
  split
  · exact h
  · split
    · exact h.mapS _
    · exact ⟨h.assign, h.retry, h.groups, h.resume, h.fans, h.panelZones, h.panelLanes, h.panelsAll, h.sched,
        h.judgeRun, h.judgeStop⟩

theorem foldl_fixed {α β : Type} (f : β → α → β) (l : List α) (b : β) (h : ∀ a ∈ l, f b a = b) : l.foldl f b = b := by
  induction l with
  | nil => rfl
  | cons x xs ih =>
    rw [List.foldl_cons, h x (by simp)]
    exact ih fun a ha => h a (by simp [ha])

theorem Ev.Quiet.assignHeads {e : Ev} (h : e.Quiet) : e.assignHeads = e := by
  unfold Ev.assignHeads
  exact foldl_fixed _ _ _ fun l _ => by simp [h.assign, h.retry]

theorem Ev.Quiet.rampMarked {e : Ev} (h : e.Quiet) (n : Nat) : Ev.rampMarked n e = e := by
  cases n with
  | zero => rfl
  | succ n =>
    have : ((List.finRange 32).find? fun f => e.fans.contains f) = none := by simp [h.fans]
    simp only [Ev.rampMarked, this]

theorem Ev.Quiet.deriveGroups {e : Ev} (h : e.Quiet) : e.deriveGroups = e := by
  unfold Ev.deriveGroups
  split
  · rfl
  · obtain ⟨s, _, _, _, _, _, _, _, _, _, _, _, _, _⟩ := e
    have h1 := h.groups; have h2 := h.resume
    dsimp only at h1 h2
    subst h1 h2
    simp

theorem Ev.Quiet.derivePanels {e : Ev} (h : e.Quiet) : e.derivePanels = e := by
  unfold Ev.derivePanels
  split
  · rfl
  · refine foldl_fixed _ _ _ fun i _ => ?_
    have : (e.s.panels.get i).kind.touched e = false := by
      unfold PanelKind.touched
      split <;> simp [h.panelZones, h.panelLanes]
    simp [h.panelsAll, this]

theorem Ev.Quiet.settle {e : Ev} (h : e.Quiet) : e.settle = e := by
  simp only [Ev.settle, h.assignHeads, h.rampMarked, h.deriveGroups, h.derivePanels]

theorem Ev.Quiet.conclude {e : Ev} (h : e.Quiet) : e.conclude = e := by
  have h1 : e.judgeEntryToRun = e := by simp [Ev.judgeEntryToRun, h.judgeRun]
  have h2 : e.judgeCompletion = e := by simp [Ev.judgeCompletion, h.judgeStop]
  have h3 : e.runSchedule = e := by
    obtain ⟨s, _, _, _, _, _, _, _, _, _, _, _, _, _⟩ := e
    have hs := h.sched
    dsimp only at hs
    subst hs
    rfl
  rw [Ev.conclude, h1, h2, h3]

/-- No zone's guidance state differs between two states, where both have the zone configured. -/
def State.SameGuidance (s t : State) : Prop :=
  ∀ z x y, s.zones.get z = some x → t.zones.get z = some y → x.guidance = y.guidance

theorem State.SameGuidance.of_zones {s t : State} (h : t.zones = s.zones) : s.SameGuidance t := by
  intro z x y hx hy
  rw [h, hx] at hy
  cases hy
  rfl

theorem Ev.raiseZoneStates_same {e : Ev} {old : State} (h : old.SameGuidance e.s) : e.raiseZoneStates old = e := by
  unfold Ev.raiseZoneStates
  refine foldl_fixed _ _ _ fun z _ => ?_
  split
  · rename_i x y hx hy
    simp [h z x y hx hy]
  · rfl

/-- The end of an event with no work left closes it. -/
theorem Ev.Quiet.finish {e : Ev} (h : e.Quiet) {old : State} (hg : e.enteredConfig = true ∨ old.SameGuidance e.s) :
    e.finish old = e.close := by
  have hc : (if e.enteredConfig = true then e else e.raiseZoneStates old) = e := by
    rcases hg with hg | hg
    · simp [hg]
    · split
      · rfl
      · exact Ev.raiseZoneStates_same hg
  simp only [Ev.finish, h.settle, hc, h.conclude]

/-- A request that is accepted, changes the state by `f` and leaves no other work: the state it leaves. -/
theorem State.request_quiet {s : State} {tag : Byte} {r : Ev → Reply × Ev} {rep : Reply} {f : State → State}
    (hw : s.link.waiting = none) (hr : r (Ev.begin s) = (rep, (Ev.begin s).mapS f))
    (hg : s.SameGuidance (f s)) : s.request tag r = (f s).answered tag rep := by
  have hq : (((Ev.begin s).mapS f).queueReply tag rep).Quiet := ((Ev.begin_quiet s).mapS f).queueReply tag rep
  simp only [State.request, hw, Option.isSome_none, hr, State.answered]
  exact hq.finish (.inr hg)

/-- A request that is refused changes nothing but the link (R182). -/
theorem State.request_rejected {s : State} {tag : Byte} {r : Ev → Reply × Ev} {x : Rejection}
    (hw : s.link.waiting = none) (hr : r (Ev.begin s) = (.reject x, Ev.begin s)) :
    s.request tag r = s.answered tag (.reject x) := by
  have hq : ((Ev.begin s).queueReply tag (.reject x)).Quiet := (Ev.begin_quiet s).queueReply tag _
  simp only [State.request, hw, Option.isSome_none, hr, State.answered]
  exact hq.finish (.inr (State.SameGuidance.of_zones rfl))

/-- An event that changes the state by `f` and leaves no other work: the state it leaves. -/
theorem State.event_quiet {s : State} {g : Ev → Ev} {f : State → State} (hr : g (Ev.begin s) = (Ev.begin s).mapS f)
    (hg : s.SameGuidance (f s)) : s.event g = (f s).closed := by
  simp only [State.event, hr]
  exact ((Ev.begin_quiet s).mapS f).finish (.inr hg)

/-- A request accepted by its checks. -/
theorem judged_accept {checks : List (Bool × Rejection)} {e : Ev} {a : Reply × Ev} (h : firstFail checks = none) :
    judged checks e a = a := by
  simp [judged, h]

/-- A request refused by its checks. -/
theorem judged_reject {checks : List (Bool × Rejection)} {e : Ev} {a : Reply × Ev} {r : Rejection}
    (h : firstFail checks = some r) : judged checks e a = (.reject r, e) := by
  simp [judged, h]

@[simp] theorem firstFail_nil : firstFail [] = none := rfl

@[simp] theorem firstFail_cons (b : Bool) (r : Rejection) (l : List (Bool × Rejection)) :
    firstFail ((b, r) :: l) = if b then some r else firstFail l := rfl

theorem firstFail_append (l m : List (Bool × Rejection)) :
    firstFail (l ++ m) = match firstFail l with
      | some r => some r
      | none => firstFail m := by
  induction l with
  | nil => rfl
  | cons x xs ih => obtain ⟨b, r⟩ := x; cases b <;> simp [ih]

/-- No check of a list fails. -/
theorem firstFail_eq_none {l : List (Bool × Rejection)} : firstFail l = none ↔ ∀ x ∈ l, x.1 = false := by
  induction l with
  | nil => simp
  | cons x xs ih => obtain ⟨b, r⟩ := x; cases b <;> simp [ih]

end Sys2Proof.Machine
end

