-- ==== Sys2Proof/Laws/Frame.lean ====
section
/-!
SUPPORT. What the work at the end of an event leaves as it is. `Ev.core` holds the essence of the state
(Safety.lean), the transmitter's frame and reply and two marks of the event; one lemma for each shared
operation says that the operation keeps the core, and `Ev.finish_core` says what the whole end of an event
leaves.
-/

namespace Sys2Proof

theorem map_put {α β : Type} {n : Nat} (t : Vector α n) (i : Fin n) (x : α) (f : α → β) :
    (put t i x).map f = put (t.map f) i (f x) := by
  apply Vector.ext
  intro k hk
  simp only [put, Vector.getElem_map, Vector.getElem_set]
  split <;> rfl

theorem put_get {α : Type} {n : Nat} (t : Vector α n) (i : Fin n) : put t i (t.get i) = t := by
  apply Vector.ext
  intro k hk
  simp only [put, Vector.getElem_set]
  split
  · subst_vars; rfl
  · rfl

theorem map_put_same {α β : Type} {n : Nat} (t : Vector α n) (i : Fin n) (x : α) (f : α → β)
    (h : f x = f (t.get i)) : (put t i x).map f = t.map f := by
  rw [map_put, h, ← get_map t f i, put_get]

end Sys2Proof

namespace Sys2Proof.Machine

/-! ### Primitive updates -/

theorem State.setZone_essence {s : State} {z : ZoneId} {x : Option Zone}
    (h : x.map Zone.essence = (s.zones.get z).map Zone.essence) : (s.setZone z x).essence = s.essence := by
  simp only [State.essence, State.setZone, map_put_same s.zones z x _ h]

theorem State.setLane_essence {s : State} {i : LaneId} {x : Lane} (h : x.essence = (s.lanes.get i).essence) :
    (s.setLane i x).essence = s.essence := by
  simp only [State.essence, State.setLane, map_put_same s.lanes i x _ h]

theorem State.setPanel_essence {s : State} {i : PanelId} {x : Panel} (h : x.essence = (s.panels.get i).essence) :
    (s.setPanel i x).essence = s.essence := by
  simp only [State.essence, State.setPanel, map_put_same s.panels i x _ h]

theorem State.setFan_essence {s : State} {i : FanId} {x : Option Fan}
    (h : x.map Fan.essence = (s.fans.get i).map Fan.essence) : (s.setFan i x).essence = s.essence := by
  simp only [State.essence, State.setFan, map_put_same s.fans i x _ h]

theorem State.setGroup_essence {s : State} {i : GroupId} {x : Option Group}
    (h : x.map Group.essence = (s.groups.get i).map Group.essence) : (s.setGroup i x).essence = s.essence := by
  simp only [State.essence, State.setGroup, map_put_same s.groups i x _ h]

theorem State.setStation_essence {s : State} {i : StationId} {x : Station}
    (h : x.essence = (s.stations.get i).essence) : (s.setStation i x).essence = s.essence := by
  simp only [State.essence, State.setStation, map_put_same s.stations i x _ h]

theorem State.setSegment_essence {s : State} {i : Seg} {x : Segment} (h : x.essence = (s.segments.get i).essence) :
    (s.setSegment i x).essence = s.essence := by
  simp only [State.essence, State.setSegment, map_put_same s.segments i x _ h]

theorem State.setLink_essence {s : State} {l : Link} (h : l.essence = s.link.essence) :
    (s.setLink l).essence = s.essence := by
  simp only [State.essence, State.setLink, h]

@[simp] theorem State.setHold_essence (s : State) (i : HoldId) (x : Option Hold) :
    (s.setHold i x).essence = s.essence := rfl

theorem State.withSupply_essence {s : State} {x : Supply} (h : x.essence = s.supply.essence) :
    ({ s with supply := x } : State).essence = s.essence := by
  simp only [State.essence, h]

theorem State.updZone_essence {s : State} {z : ZoneId} {f : Zone → Zone} (h : ∀ x, (f x).essence = x.essence) :
    (s.updZone z f).essence = s.essence := by
  unfold State.updZone
  split
  · rename_i x hx; exact State.setZone_essence (by simp [hx, h])
  · rfl

theorem State.updFan_essence {s : State} {i : FanId} {f : Fan → Fan} (h : ∀ x, (f x).essence = x.essence) :
    (s.updFan i f).essence = s.essence := by
  unfold State.updFan
  split
  · rename_i x hx; exact State.setFan_essence (by simp [hx, h])
  · rfl

theorem State.updGroup_essence {s : State} {i : GroupId} {f : Group → Group} (h : ∀ x, (f x).essence = x.essence) :
    (s.updGroup i f).essence = s.essence := by
  unfold State.updGroup
  split
  · rename_i x hx; exact State.setGroup_essence (by simp [hx, h])
  · rfl

/-- The essence of an event's state, its transmitter, and the marks that the work at its end leaves. -/
def Ev.core (e : Ev) : State × Bool × Bool × Option Frame × Option Frame :=
  (e.s.essence, e.judgeRun, e.enteredConfig, e.s.link.tx, e.s.link.waiting)

theorem foldl_core {α : Type} {f : Ev → α → Ev} (h : ∀ e a, (f e a).core = e.core) (l : List α) (e : Ev) :
    (l.foldl f e).core = e.core := by
  induction l generalizing e with
  | nil => rfl
  | cons x xs ih => rw [List.foldl_cons, ih, h]

theorem Ev.mapS_core {e : Ev} {f : State → State} (h : (f e.s).essence = e.s.essence)
    (ht : (f e.s).link.tx = e.s.link.tx) (hw : (f e.s).link.waiting = e.s.link.waiting) :
    (e.mapS f).core = e.core := by
  simp only [Ev.core, Ev.mapS, h, ht, hw]

/-! ### Notices, marks and output records -/

@[simp] theorem Ev.raise_core (e : Ev) (k : NoticeKind) (n : Nat) (d : List Byte) :
    (e.raise k n d).core = e.core := by
  unfold Ev.raise
  dsimp only
  split
  · rfl
  · split
    · exact Ev.mapS_core (State.setLink_essence rfl) rfl rfl
    · rfl

@[simp] theorem Ev.markStop_core (e : Ev) : e.markStop.core = e.core := rfl
@[simp] theorem Ev.markRetry_core (e : Ev) : e.markRetry.core = e.core := rfl
@[simp] theorem Ev.markAssign_core (e : Ev) (l : LaneId) : (e.markAssign l).core = e.core := rfl
@[simp] theorem Ev.markGroup_core (e : Ev) (g : GroupId) : (e.markGroup g).core = e.core := rfl
@[simp] theorem Ev.markResume_core (e : Ev) (g : GroupId) : (e.markResume g).core = e.core := rfl
@[simp] theorem Ev.markFan_core (e : Ev) (f : FanId) : (e.markFan f).core = e.core := rfl
@[simp] theorem Ev.markPanelZone_core (e : Ev) (z : ZoneId) : (e.markPanelZone z).core = e.core := rfl
@[simp] theorem Ev.markPanelLane_core (e : Ev) (l : LaneId) : (e.markPanelLane l).core = e.core := rfl

@[simp] theorem Ev.queueReply_essence (e : Ev) (tag : Byte) (r : Reply) :
    (e.queueReply tag r).s.essence = e.s.essence := State.setLink_essence rfl

@[simp] theorem Ev.markDirty_core (e : Ev) (i : StationId) : (e.markDirty i).core = e.core := by
  rw [Ev.markDirty, Ev.markStop_core]
  exact Ev.mapS_core (State.setStation_essence rfl) rfl rfl

@[simp] theorem Ev.placeFan_core (e : Ev) (f : FanId) : (e.placeFan f).core = e.core := by
  unfold Ev.placeFan
  split
  · exact Ev.markDirty_core _ _
  · rfl

@[simp] theorem Ev.placeGroup_core (e : Ev) (g : GroupId) : (e.placeGroup g).core = e.core := by
  unfold Ev.placeGroup
  split
  · exact Ev.markDirty_core _ _
  · rfl

/-! ### Holds, guidance and assignment -/

@[simp] theorem Ev.addRoute_core (e : Ev) (g : GroupId) : (e.addRoute g).core = e.core := by
  rw [Ev.addRoute, Ev.markGroup_core]
  exact Ev.mapS_core (State.updGroup_essence (by intro _; rfl)) (by simp) (by simp)

@[simp] theorem Ev.dropRoute_core (e : Ev) (g : GroupId) : (e.dropRoute g).core = e.core := by
  rw [Ev.dropRoute, Ev.markGroup_core]
  exact Ev.mapS_core (State.updGroup_essence (by intro _; rfl)) (by simp) (by simp)

@[simp] theorem Ev.release_core (e : Ev) (id : HoldId) : (e.release id).core = e.core := by
  unfold Ev.release
  split
  · rfl
  · rename_i h _
    dsimp only
    rw [foldl_core (fun e l => by split <;> rfl), Ev.markPanelZone_core, foldl_core Ev.dropRoute_core]
    rfl

@[simp] theorem Ev.trim_core (e : Ev) (z : ZoneId) (b : Bucket) : (e.trim z b).core = e.core :=
  foldl_core Ev.release_core _ _

theorem Ev.guide_core {f : Zone → Zone} (hf : ∀ x, (f x).essence = x.essence) (e : Ev) (z : ZoneId) :
    (e.guide z f).core = e.core := by
  unfold Ev.guide
  split
  · rfl
  · rename_i old hz
    have h1 : (e.mapS fun s => s.setZone z (some (f old))).core = e.core :=
      Ev.mapS_core (State.setZone_essence (by simp [hz, hf])) rfl rfl
    dsimp only
    split
    · exact h1
    · split
      · split
        · rw [foldl_core Ev.release_core]; exact h1
        · rw [Ev.markRetry_core, foldl_core Ev.release_core]; exact h1
      · split <;> exact h1

@[simp] theorem Ev.judgeVentilated_core (e : Ev) (z : ZoneId) : (e.judgeVentilated z).core = e.core :=
  Ev.guide_core (by intro _; rfl) _ _

@[simp] theorem Ev.judgeServed_core (e : Ev) (f : FanId) : (e.judgeServed f).core = e.core := by
  unfold Ev.judgeServed
  split
  · exact foldl_core Ev.judgeVentilated_core _ _
  · rfl

@[simp] theorem Ev.setHead_core (e : Ev) (l : LaneId) (st : ArrivalState) :
    (e.setHead l st).core = e.core := by
  rw [Ev.setHead, Ev.markPanelLane_core]
  refine Ev.mapS_core (State.setLane_essence ?_) rfl rfl
  dsimp only
  split
  · rfl
  · rename_i h t hq
    simp [Lane.essence, hq]

@[simp] theorem Ev.createHold_core (e : Ev) (l : LaneId) (id : HoldId) (c : Candidate) :
    (e.createHold l id c).core = e.core := by
  unfold Ev.createHold
  dsimp only
  rw [Ev.markPanelZone_core, foldl_core Ev.addRoute_core]
  rfl

@[simp] theorem Ev.assignHead_core (e : Ev) (l : LaneId) : (e.assignHead l).core = e.core := by
  unfold Ev.assignHead
  split
  · rfl
  · split
    · exact Ev.setHead_core _ _ _
    · split <;> simp

@[simp] theorem Ev.assignHeads_core (e : Ev) : e.assignHeads.core = e.core := by
  refine foldl_core (fun e' l => ?_) _ _
  split
  · exact Ev.assignHead_core _ _
  · rfl

/-! ### Fans, groups and the supply -/

theorem Ev.updFan_core {g : Fan → Fan} (h : ∀ x, (g x).essence = x.essence) (e : Ev) (f : FanId) :
    (e.updFan f g).core = e.core := by
  rw [Ev.updFan, Ev.markStop_core, Ev.markFan_core]
  exact Ev.mapS_core (State.updFan_essence h) (by simp) (by simp)

theorem Ev.updGroup_core {f : Group → Group} (h : ∀ x, (f x).essence = x.essence) (e : Ev) (g : GroupId) :
    (e.updGroup g f).core = e.core :=
  Ev.mapS_core (State.updGroup_essence h) (by simp) (by simp)

/-- A change of command keeps a fan in FAULT or LOST there, and every other fan out of both. -/
theorem Fan.command_essence (x : Fan) (v now : Nat) :
    ({ x.enter (x.stateOnCommand v) now with command := v } : Fan).essence = x.essence := by
  obtain ⟨_, _, _, _, _, st, _, _, _, c, _, _, _, _⟩ := x
  cases st <;> simp only [Fan.stateOnCommand, Fan.enter, Fan.essence, Fan.outOfService] <;> repeat' split
  all_goals simp_all

@[simp] theorem Ev.setFanCommand_core (e : Ev) (f : FanId) (v : Nat) :
    (e.setFanCommand f v).core = e.core := by
  unfold Ev.setFanCommand
  split
  · rfl
  · split
    · rfl
    · dsimp only
      split
      · rw [Ev.placeFan_core, Ev.updFan_core]
        exact fun y => Fan.command_essence y v _
      · rw [Ev.judgeServed_core, Ev.placeFan_core, Ev.updFan_core]
        exact fun y => Fan.command_essence y v _

@[simp] theorem Ev.deferFan_core (e : Ev) (f : FanId) (v : Option Nat) :
    (e.deferFan f v).core = e.core := rfl

@[simp] theorem Ev.deferGroup_core (e : Ev) (g : GroupId) (v : Option Nat) :
    (e.deferGroup g v).core = e.core := rfl

@[simp] theorem Ev.setGroupLevel_core (e : Ev) (g : GroupId) (v : Nat) :
    (e.setGroupLevel g v).core = e.core := by
  unfold Ev.setGroupLevel
  split
  · rfl
  · split
    · rfl
    · rw [Ev.placeGroup_core, Ev.updGroup_core]
      intro _; rfl

@[simp] theorem Ev.shedGroup_core (e : Ev) (g : GroupId) (v : Nat) :
    (e.shedGroup g v).core = e.core := by
  unfold Ev.shedGroup
  split
  · rfl
  · dsimp only
    split
    · simp
    · split
      · rw [Ev.deferGroup_core, Ev.updGroup_core, Ev.setGroupLevel_core]
        intro _; rfl
      · split
        · rw [Ev.updGroup_core, Ev.setGroupLevel_core]
          intro _; rfl
        · simp

@[simp] theorem Ev.shedFan_core (e : Ev) (f : FanId) (v : Nat) : (e.shedFan f v).core = e.core := by
  unfold Ev.shedFan
  split
  · rfl
  · dsimp only
    split <;> simp

@[simp] theorem Ev.shedTo_core (e : Ev) (target : Int) : (e.shedTo target).core = e.core := by
  have h1 (e : Ev) (g : GroupId) : (Ev.shedPass1 target e g).core = e.core := by
    unfold Ev.shedPass1; split
    · split <;> simp
    · rfl
  have h2 (e : Ev) (g : FanId) : (Ev.shedPass2 target e g).core = e.core := by
    unfold Ev.shedPass2; split
    · split <;> simp
    · rfl
  have h3 (e : Ev) (g : FanId) : (Ev.shedPass3 target e g).core = e.core := by
    unfold Ev.shedPass3; split
    · split <;> simp
    · rfl
  unfold Ev.shedTo
  dsimp only
  rw [foldl_core h3, foldl_core h2, foldl_core h1]

@[simp] theorem Ev.shedToLimit_core (e : Ev) : e.shedToLimit.core = e.core := by
  have h (e : Ev) : (e.mapS fun s => { s with supply := { s.supply with overLimit := true } }).core = e.core :=
    Ev.mapS_core (State.withSupply_essence (by simp only [Supply.essence])) rfl rfl
  unfold Ev.shedToLimit
  dsimp only
  split
  · rw [Ev.raise_core, h, Ev.shedTo_core]
  · simp

@[simp] theorem Ev.askFan_core (e : Ev) (f : FanId) (w : Nat) : (e.askFan f w).core = e.core := by
  unfold Ev.askFan
  split
  · rfl
  · dsimp only
    rw [Ev.deferFan_core, Ev.setFanCommand_core]
    split <;> simp

@[simp] theorem Ev.askGroup_core (e : Ev) (g : GroupId) (w : Nat) : (e.askGroup g w).core = e.core := by
  unfold Ev.askGroup
  split
  · rfl
  · dsimp only
    rw [Ev.deferGroup_core, Ev.updGroup_core, Ev.setGroupLevel_core]
    intro _; rfl

@[simp] theorem Ev.raiseFan_core (e : Ev) (f : FanId) (v w : Nat) : (e.raiseFan f v w).core = e.core := by
  unfold Ev.raiseFan
  dsimp only
  split <;> simp

@[simp] theorem Ev.raiseGroup_core (e : Ev) (g : GroupId) (v w : Nat) :
    (e.raiseGroup g v w).core = e.core := by
  unfold Ev.raiseGroup
  dsimp only
  split
  · rw [Ev.deferGroup_core, Ev.updGroup_core, Ev.setGroupLevel_core]
    intro _; rfl
  · simp

@[simp] theorem Ev.serveList_core (l : List Member) (e : Ev) : (e.serveList l).core = e.core := by
  induction l generalizing e with
  | nil => rfl
  | cons m ms ih =>
    cases m with
    | fan f =>
      simp only [Ev.serveList]
      split
      · split <;> simp [ih]
      · exact ih e
    | group g =>
      simp only [Ev.serveList]
      split
      · split <;> simp [ih]
      · exact ih e

@[simp] theorem Ev.serve_core (e : Ev) : e.serve.core = e.core := by
  unfold Ev.serve
  split
  · exact Ev.serveList_core _ _
  · rfl

@[simp] theorem Ev.raiseAll_core (e : Ev) : e.raiseAll.core = e.core := by
  refine foldl_core (fun e m => ?_) _ _
  split <;> split <;> simp

@[simp] theorem Ev.servePromoted_core (e : Ev) (l : List FanId) : (e.servePromoted l).core = e.core := by
  refine foldl_core (fun e f => ?_) _ _
  split <;> simp

/-! ### Ramps, levels and panels -/

@[simp] theorem Ev.rampStep_core (e : Ev) (f : FanId) (x : Fan) : (e.rampStep f x).core = e.core := by
  have h (e : Ev) (t : Nat) : (e.updFan f fun y => { y with ramp := some t }).core = e.core :=
    Ev.updFan_core (by intro _; rfl) _ _
  unfold Ev.rampStep
  dsimp only
  split <;> simp [h]

@[simp] theorem Ev.tryRamp_core (e : Ev) (f : FanId) : (e.tryRamp f).core = e.core := by
  unfold Ev.tryRamp
  split
  · rfl
  · split <;> simp

@[simp] theorem Ev.rampMarked_core (n : Nat) (e : Ev) : (Ev.rampMarked n e).core = e.core := by
  induction n generalizing e with
  | zero => rfl
  | succ n ih =>
    simp only [Ev.rampMarked]
    split
    · rfl
    · rw [ih, Ev.tryRamp_core]
      rfl

@[simp] theorem Ev.deriveState_core (e : Ev) (g : GroupId) : (e.deriveState g).core = e.core := by
  unfold Ev.deriveState
  dsimp only
  split
  · rfl
  · exact Ev.updGroup_core (by intro _; rfl) _ _

@[simp] theorem Ev.reclass_core (e : Ev) (gs : List GroupId) (d : Bool) :
    (e.reclass gs d).core = e.core := by
  unfold Ev.reclass
  dsimp only
  split
  · rw [Ev.shedToLimit_core, foldl_core Ev.deriveState_core]
  · rw [foldl_core Ev.deriveState_core]

@[simp] theorem Ev.moveLevel_core (e : Ev) (g : GroupId) : (e.moveLevel g).core = e.core := by
  unfold Ev.moveLevel
  repeat' split
  all_goals first
    | rfl
    | (rw [Ev.deferGroup_core, Ev.updGroup_core]; intro _; rfl)
    | simp

@[simp] theorem Ev.deriveLevel_core (e : Ev) (g : GroupId) : (e.deriveLevel g).core = e.core := by
  have h (e : Ev) (w : Nat) : (e.updGroup g fun y => { y with wanted := w }).core = e.core :=
    Ev.updGroup_core (by intro _; rfl) _ _
  unfold Ev.deriveLevel
  split
  · rfl
  · dsimp only
    repeat' split
    all_goals simp [h]

@[simp] theorem Ev.deriveGroups_core (e : Ev) : e.deriveGroups.core = e.core := by
  unfold Ev.deriveGroups
  split
  · rfl
  · dsimp only
    show (List.foldl Ev.deriveLevel _ _).core = e.core
    rw [foldl_core Ev.deriveLevel_core]
    split <;> simp

@[simp] theorem Ev.derivePanel_core (e : Ev) (i : PanelId) : (e.derivePanel i).core = e.core :=
  Ev.mapS_core (State.setPanel_essence rfl) rfl rfl

@[simp] theorem Ev.derivePanels_core (e : Ev) : e.derivePanels.core = e.core := by
  unfold Ev.derivePanels
  split
  · rfl
  · refine foldl_core (fun e' i => ?_) _ _
    split <;> simp

/-- The work of the units at the end of an event keeps the essence. -/
@[simp] theorem Ev.settle_core (e : Ev) : e.settle.core = e.core := by
  simp [Ev.settle]

@[simp] theorem Ev.raiseZoneStates_core (e : Ev) (old : State) : (e.raiseZoneStates old).core = e.core := by
  refine foldl_core (fun e z => ?_) _ _
  split
  · split <;> simp
  · rfl

/-! ### The schedule and the closing -/

theorem State.updSegment_essence {s : State} {g : Seg} {f : Segment → Segment} (h : ∀ x, (f x).essence = x.essence) :
    (s.updSegment g f).essence = s.essence := State.setSegment_essence (h _)

theorem State.updStation_essence {s : State} {i : StationId} {f : Station → Station}
    (h : ∀ x, (f x).essence = x.essence) : (s.updStation i f).essence = s.essence := State.setStation_essence (h _)

@[simp] theorem State.sendCommand_essence (s : State) (g : Seg) (i : StationId) :
    (s.sendCommand g i).essence = s.essence := by
  have h (f : Segment → Segment) (hf : ∀ x, (f x).essence = x.essence) :
      (s.updSegment g f).essence = s.essence := State.updSegment_essence hf
  unfold State.sendCommand
  dsimp only
  split
  · refine (State.setPanel_essence ?_).trans (h _ ?_)
    · rfl
    · intro _; rfl
  · refine h _ ?_
    intro _; rfl

@[simp] theorem State.sendProbe_essence (s : State) (g : Seg) (i : StationId) :
    (s.sendProbe g i).essence = s.essence := by
  refine (State.updSegment_essence ?_).trans (State.updStation_essence ?_)
  · intro _; rfl
  · intro _; rfl

@[simp] theorem State.sendLanePoll_essence (s : State) (g : Seg) (i : StationId) :
    (s.sendLanePoll g i).essence = s.essence := by
  refine State.updSegment_essence ?_
  intro _; rfl

@[simp] theorem State.sendPoll_essence (s : State) (g : Seg) (i : StationId) :
    (s.sendPoll g i).essence = s.essence := by
  refine State.updSegment_essence ?_
  intro _; rfl

@[simp] theorem State.settleRound_essence (s : State) (g : Seg) : (s.settleRound g).essence = s.essence := by
  refine State.updSegment_essence fun x => ?_
  split
  · rfl
  · split
    · split <;> rfl
    · rfl

@[simp] theorem State.choose_essence (s : State) (g : Seg) (p : Bool) : (s.choose g p).essence = s.essence := by
  unfold State.choose
  split
  · rfl
  · dsimp only
    repeat' split
    all_goals simp

@[simp] theorem State.choose_link (s : State) (g : Seg) (p : Bool) : (s.choose g p).link = s.link := by
  have hc (i : StationId) : (s.sendCommand g i).link = s.link := by
    unfold State.sendCommand
    dsimp only
    split <;> rfl
  unfold State.choose
  dsimp only
  repeat' split
  all_goals first
    | rfl
    | simp [hc]

/-- The choice of the next exchanges keeps the core. -/
@[simp] theorem Ev.runSchedule_core (e : Ev) : e.runSchedule.core = e.core := by
  have h (l : List (Seg × Bool)) (s : State) : (l.foldl (fun s x => s.choose x.1 x.2) s).essence = s.essence ∧
      (l.foldl (fun s x => s.choose x.1 x.2) s).link = s.link := by
    induction l generalizing s with
    | nil => exact ⟨rfl, rfl⟩
    | cons x xs ih => rw [List.foldl_cons, (ih _).1, (ih _).2]; exact ⟨State.choose_essence _ _ _, State.choose_link _ _ _⟩
  simp only [Ev.core, Ev.runSchedule, (h _ _).1, (h _ _).2]

theorem Link.pump_essence (l : Link) : l.pump.essence = l.essence := by
  unfold Link.pump
  split <;> rfl

@[simp] theorem State.judgeOver_essence (s : State) : s.judgeOver.essence = s.essence := by
  unfold State.judgeOver
  split <;> rfl

/-- The closing of an event changes nothing of the essence. -/
@[simp] theorem Ev.close_essence (e : Ev) : e.close.essence = e.s.essence := by
  refine (State.setLink_essence ?_).trans (State.judgeOver_essence _)
  rw [Link.pump_essence]
  simp [Link.join, Link.essence]

/-- At the closing, a reply that waits behind no frame is sent. -/
theorem Ev.close_sends {e : Ev} {r : Frame} (ht : e.s.link.tx = none) (hw : e.s.link.waiting = some r) :
    e.close.link.tx = some r ∧ e.close.link.waiting = none := by
  simp [Ev.close, Link.join, Link.pump, ht, hw]

/-- At the closing, a frame being sent goes on, and the reply behind it waits. -/
theorem Ev.close_waits {e : Ev} {f : Frame} (ht : e.s.link.tx = some f) :
    e.close.link.tx = some f ∧ e.close.link.waiting = e.s.link.waiting := by
  simp [Ev.close, Link.join, Link.pump, ht]

theorem Ev.core_s {e e' : Ev} (h : e'.core = e.core) : e'.s.essence = e.s.essence := congrArg Prod.fst h

theorem Ev.core_part {e e' : Ev} (h : e'.core = e.core) : e'.s.part = e.s.part := by
  have := congrArg State.part (Ev.core_s h)
  exact this

/-! ### The end of an event -/

theorem Vector.get_congr_map {α β : Type} {n : Nat} {f : α → β} {a b : Vector α n} (h : a.map f = b.map f)
    (i : Fin n) : f (a.get i) = f (b.get i) := by
  rw [← get_map a f i, ← get_map b f i, h]

/-- The end of a running test depends on the essence alone, and changes it alike. -/
theorem Ev.abortTest_essence {e e' : Ev} (h : e.s.essence = e'.s.essence) (g : Seg) :
    (e.abortTest g).s.essence = (e'.abortTest g).s.essence := by
  have hm : e.s.segments.map Segment.essence = e'.s.segments.map Segment.essence := congrArg State.segments h
  have hg := Vector.get_congr_map hm g
  have ht : (e.s.segments.get g).test = (e'.s.segments.get g).test := by
    have := congrArg Segment.test hg
    exact this
  have hr : (e.s.segments.get g).testRunning = (e'.s.segments.get g).testRunning := by
    have := congrArg Segment.testRunning hg
    exact this
  unfold Ev.abortTest
  dsimp only
  rw [ht, hr]
  split
  · split
    · rename_i t _ _
      have h1 (d : Ev) : (d.endTest g t .aborted).s.essence =
          d.s.essence.updSegment g fun x =>
            { x with test := some { t with outcome := .aborted }, testRunning := false } := by
        rw [Ev.endTest, Ev.core_s (Ev.raise_core _ _ _ _)]
        simp only [Ev.mapS, State.updSegment, State.setSegment, State.essence, map_put, get_map, Segment.essence]
      rw [h1, h1, h]
    · exact h
  · exact h

theorem State.mapBays_essence (s : State) (f : Addr → Bay → Bay) :
    s.essence.mapBays f = { s.essence with tables := (s.mapBays f).tables } := by
  have hr : s.essence.rows = s.rows := rfl
  have ht : s.essence.tables = s.tables := rfl
  unfold State.mapBays
  rw [hr, ht]
  dsimp only
  rw [hr]

theorem State.sumCounts_congr {s t : State} (hr : s.rows = t.rows) (ht : s.tables = t.tables) :
    s.sumCounts = t.sumCounts := by
  unfold State.sumCounts
  rw [hr, ht]

theorem State.evalBay_essence (s : State) (a : Addr) (b : Bay) : s.essence.evalBay a b = s.evalBay a b := rfl

theorem State.mapToConfig_essence (s : State) :
    s.essence.mapToConfig = { s.essence with
      levels := s.mapToConfig.levels, rows := s.mapToConfig.rows, tables := s.mapToConfig.tables
      recount := s.mapToConfig.recount, shadow := s.mapToConfig.shadow, live := s.mapToConfig.live } := by
  unfold State.mapToConfig
  simp only [State.evalBay_essence, State.mapBays_essence]
  have h (f : Addr → Bay → Bay) :
      ({ s.essence with tables := (s.mapBays f).tables } : State).sumCounts = (s.mapBays f).sumCounts := by
    apply State.sumCounts_congr
    · dsimp only [State.essence, State.mapBays]
    · dsimp only
  generalize (fun (a : Addr) (b : Bay) => ({ b.toConfig with counted := s.evalBay a b.toConfig } : Bay)) = f
  have h' := h f
  clear h
  generalize State.sumCounts = sc at h' ⊢
  rw [h']
  have hl : s.essence.levels = s.levels := rfl
  have hr : s.essence.rows = s.rows := rfl
  simp only [hl, hr, State.mapBays]

/-- The entry to CONFIG depends on the essence alone. -/
theorem State.toConfig_essence (s : State) : s.toConfig.essence = s.essence.toConfig.essence := by
  have hm := State.mapToConfig_essence s
  have hz : (s.zones.map (Option.map Zone.essence)).map (Option.map Zone.toConfig) = s.zones.map (Option.map Zone.toConfig) := by
    apply Vector.ext
    intro i hi
    simp only [Vector.getElem_map, Option.map_map]
    rfl
  have hl : (s.lanes.map Lane.essence).map (fun l => ({ l with queue := [] } : Lane)) =
      s.lanes.map (fun l => ({ l with queue := [] } : Lane)) := by
    apply Vector.ext
    intro i hi
    simp only [Vector.getElem_map, Lane.essence]
  have hp : (s.panels.map Panel.essence).map Panel.toConfig = s.panels.map Panel.toConfig := by
    apply Vector.ext
    intro i hi
    simp only [Vector.getElem_map, Panel.essence, Panel.toConfig]
  have hf : (s.fans.map (Option.map Fan.essence)).map (Option.map Fan.toConfig) = s.fans.map (Option.map Fan.toConfig) := by
    apply Vector.ext
    intro i hi
    simp only [Vector.getElem_map, Option.map_map]
    rfl
  have hgr : (s.groups.map (Option.map Group.essence)).map (Option.map Group.toConfig) =
      s.groups.map (Option.map Group.toConfig) := by
    apply Vector.ext
    intro i hi
    simp only [Vector.getElem_map, Option.map_map]
    rfl
  have hst : (s.stations.map Station.essence).map Station.toConfig = s.stations.map Station.toConfig := by
    apply Vector.ext
    intro i hi
    simp only [Vector.getElem_map, Station.essence, Station.toConfig]
  have hse : ((s.segments.map Segment.essence).map Segment.toConfig).map Segment.essence =
      (s.segments.map Segment.toConfig).map Segment.essence := by
    apply Vector.ext
    intro i hi
    simp only [Vector.getElem_map, Segment.essence, Segment.toConfig]
  conv_rhs => rw [State.toConfig, hm]
  conv_lhs => rw [State.toConfig]
  simp only [State.essence, hz, hl, hp, hf, hgr, hst, hse]
  rfl

theorem Ev.enterConfig_essence {e e' : Ev} (h : e.s.essence = e'.s.essence) :
    e.enterConfig.s.essence = e'.enterConfig.s.essence := by
  have h1 : e.abortTests.s.essence = e'.abortTests.s.essence :=
    Ev.abortTest_essence (Ev.abortTest_essence h 0) 1
  show e.abortTests.s.toConfig.essence = e'.abortTests.s.toConfig.essence
  rw [State.toConfig_essence, h1, ← State.toConfig_essence]

theorem Ev.endTest_tx (e : Ev) (g : Seg) (t : TestRecord) (o : TestOutcome) :
    (e.endTest g t o).s.link.tx = e.s.link.tx ∧ (e.endTest g t o).s.link.waiting = e.s.link.waiting := by
  have h := Ev.raise_core (e.mapS fun s => s.updSegment g fun x =>
    { x with test := some { t with outcome := o }, testRunning := false, exchange := none }) .testDone g.val
    (TestRecord.notice { t with outcome := o })
  exact ⟨congrArg (fun c => c.2.2.2.1) h, congrArg (fun c => c.2.2.2.2) h⟩

theorem Ev.abortTest_tx (e : Ev) (g : Seg) :
    (e.abortTest g).s.link.tx = e.s.link.tx ∧ (e.abortTest g).s.link.waiting = e.s.link.waiting := by
  unfold Ev.abortTest
  dsimp only
  split
  · split
    · exact Ev.endTest_tx _ _ _ _
    · exact ⟨rfl, rfl⟩
  · exact ⟨rfl, rfl⟩

/-- The entry to CONFIG leaves the transmitter and the reply as they are. -/
theorem Ev.enterConfig_tx (e : Ev) :
    e.enterConfig.s.link.tx = e.s.link.tx ∧ e.enterConfig.s.link.waiting = e.s.link.waiting := by
  have h0 := e.abortTest_tx 0
  have h1 := (e.abortTest 0).abortTest_tx 1
  exact ⟨h1.1.trans h0.1, h1.2.trans h0.2⟩

/-- The end of an event: the event to be closed keeps the transmitter and the reply, and its state is what
`SettlesOrStarts` says, the entry to RUN only where it was to be judged. -/
theorem Ev.finish_cases (e : Ev) (old : State) :
    ∃ e' : Ev, e.finish old = e'.close ∧ e'.s.link.tx = e.s.link.tx ∧ e'.s.link.waiting = e.s.link.waiting ∧
      (Settles e.s e'.s ∨
        (e.judgeRun = true ∧ e.s.part = .starting ∧ e'.s.essence = { e.s.essence with part := .run })) := by
  unfold Ev.finish
  dsimp only
  generalize he : (if e.settle.enteredConfig = true then e.settle else e.settle.raiseZoneStates old) = e2
  have h2 : e2.core = e.core := by
    rw [← he]
    split <;> simp
  have hp : e2.s.part = e.s.part := Ev.core_part h2
  have htx : ∀ d : Ev, d.core = e.core → d.s.link.tx = e.s.link.tx ∧ d.s.link.waiting = e.s.link.waiting :=
    fun d hd => ⟨congrArg (fun c => c.2.2.2.1) hd, congrArg (fun c => c.2.2.2.2) hd⟩
  refine ⟨e2.conclude, rfl, ?_⟩
  rw [Ev.conclude]
  unfold Ev.judgeEntryToRun
  split
  · rename_i hc
    have hs : e.judgeRun = true ∧ e.s.part = .starting := by
      have h3 := Bool.and_eq_true_iff.1 (Bool.and_eq_true_iff.1 hc).1
      have h4 : e2.judgeRun = e.judgeRun := congrArg (fun c => c.2.1) h2
      exact ⟨h4 ▸ h3.1, by simpa [hp] using h3.2⟩
    generalize hr : Ev.raise (e2.mapS fun s => { s with part := .run }) .started 0 [] = e3
    have h3 : e3.core = (e2.mapS fun s => { s with part := .run }).core := by rw [← hr, Ev.raise_core]
    have h5 : e3.s.essence = { e.s.essence with part := .run } := by
      rw [Ev.core_s h3, ← Ev.core_s h2]
      rfl
    have h4 : e3.s.part = .run := congrArg State.part h5
    have hj : e3.judgeCompletion = e3 := by simp [Ev.judgeCompletion, h4]
    rw [hj]
    have h6 := Ev.runSchedule_core e3
    refine ⟨?_, ?_, .inr ⟨hs.1, hs.2, (Ev.core_s h6).trans h5⟩⟩
    · exact (congrArg (fun c => c.2.2.2.1) (h6.trans h3)).trans (htx e2 h2).1
    · exact (congrArg (fun c => c.2.2.2.2) (h6.trans h3)).trans (htx e2 h2).2
  · unfold Ev.judgeCompletion
    split
    · rename_i hc
      have hs : e.s.part = .stopping := by
        have h3 := (Bool.and_eq_true_iff.1 (Bool.and_eq_true_iff.1 hc).1).2
        simpa [hp] using h3
      have h6 := (Ev.runSchedule_core (e2.enterConfig.raise .stopped 0 [])).trans (Ev.raise_core _ _ _ _)
      have h7 := Ev.enterConfig_tx e2
      refine ⟨?_, ?_, .inl (.inr ⟨hs, (Ev.core_s h6).trans ?_⟩)⟩
      · exact (congrArg (fun c => c.2.2.2.1) h6).trans (h7.1.trans (htx e2 h2).1)
      · exact (congrArg (fun c => c.2.2.2.2) h6).trans (h7.2.trans (htx e2 h2).2)
      · exact Ev.enterConfig_essence (e := e2) (e' := Ev.begin e.s) (show e2.s.essence = e.s.essence from Ev.core_s h2)
    · have h6 := (Ev.runSchedule_core e2).trans h2
      exact ⟨(htx _ h6).1, (htx _ h6).2, .inl (.inl (Ev.core_s h6))⟩

theorem Settles.close {x : State} {e : Ev} (h : Settles x e.s) : Settles x e.close := by
  unfold Settles
  rw [Ev.close_essence]
  exact h

theorem SettlesOrStarts.close {x : State} {e : Ev}
    (h : Settles x e.s ∨ (x.part = .starting ∧ e.s.essence = { x.essence with part := .run })) :
    SettlesOrStarts x e.close := by
  rcases h with h | ⟨h1, h2⟩
  · exact .inl h.close
  · exact .inr ⟨h1, (Ev.close_essence e).trans h2⟩

/-- An event settles in what its unit's own work leaves, or completes the entry to RUN besides. -/
theorem State.event_settles (s : State) (f : Ev → Ev) : SettlesOrStarts (f (Ev.begin s)).s (s.event f) := by
  obtain ⟨e', h1, -, -, h2⟩ := (f (Ev.begin s)).finish_cases s
  rw [State.event, h1]
  exact SettlesOrStarts.close (h2.imp_right fun h => h.2)

/-- An event that does not judge the entry to RUN settles in what its unit's own work leaves. -/
theorem State.event_settles' {s : State} {f : Ev → Ev} (hj : (f (Ev.begin s)).judgeRun = false) :
    Settles (f (Ev.begin s)).s (s.event f) := by
  obtain ⟨e', h1, -, -, h2⟩ := (f (Ev.begin s)).finish_cases s
  rw [State.event, h1]
  rcases h2 with h2 | ⟨h2, -⟩
  · exact h2.close
  · rw [hj] at h2
    cases h2

/-- A request answered by its rule: the reply stands in the link, and the state settles in what the rule's
own work leaves. -/
theorem State.request_settles {s : State} {tag : Byte} {r : Ev → Reply × Ev} {rep : Reply} {e : Ev}
    (hw : s.link.waiting = none) (hr : r (Ev.begin s) = (rep, e)) (ht : e.s.link.tx = s.link.tx) :
    (SettlesOrStarts e.s (s.request tag r) ∧ (e.judgeRun = false → Settles e.s (s.request tag r))) ∧
      Replied s (s.request tag r) tag rep := by
  have h0 : s.request tag r = (e.queueReply tag rep).finish s := by
    simp [State.request, hw, hr]
  obtain ⟨e', h1, h2, h3, h4⟩ := (e.queueReply tag rep).finish_cases s
  have hq : (e.queueReply tag rep).s.essence = e.s.essence := Ev.queueReply_essence e tag rep
  have hs : ∀ t, Settles (e.queueReply tag rep).s t → Settles e.s t := by
    intro t ht
    unfold Settles at *
    rw [hq] at ht
    refine ht.imp_right fun h => ⟨h.1, h.2.trans ?_⟩
    exact Ev.enterConfig_essence (e := Ev.begin _) (e' := Ev.begin _) hq
  rw [h0, h1]
  refine ⟨⟨SettlesOrStarts.close ?_, fun hj => ?_⟩, ?_⟩
  · refine h4.imp (hs _) fun h => ⟨h.2.1, h.2.2.trans ?_⟩
    rw [hq]
  · rcases h4 with h4 | ⟨h4, -⟩
    · exact (hs _ h4).close
    · rw [show (e.queueReply tag rep).judgeRun = e.judgeRun from rfl, hj] at h4
      cases h4
  · have h6 : e'.s.link.waiting = some (rep.frame tag) := h3
    have h7 : e'.s.link.tx = s.link.tx := h2.trans ht
    unfold Replied
    split
    · rename_i hx; exact Ev.close_sends (h7.trans hx) h6
    · rename_i f hx
      obtain ⟨h8, h9⟩ := Ev.close_waits (h7.trans hx)
      exact ⟨h8, h9.trans h6⟩

end Sys2Proof.Machine
end

