-- ==== Sys2Proof/Laws/Notices.lean ====
section
/-!
SUPPORT. What becomes of a notice that an event raises (R183, R184): it stands among the event's notices after its
raise, a raise of another key keeps it, and the end of the event leaves it pending or starts its frame, as `Told`
(Safety.lean) says.
-/

namespace Sys2Proof.Machine

theorem mem_insertNotice (n : Notice) (l : List Notice) : n ∈ insertNotice n l := by
  induction l with
  | nil => simp [insertNotice]
  | cons m ms ih => simp only [insertNotice]; split <;> [simp; (split <;> simp [ih])]

theorem mem_insertNotice_of_other {n m : Notice} {l : List Notice} (hm : m ∈ l) (h : n.sameKey m = false) :
    m ∈ insertNotice n l := by
  induction l with
  | nil => cases hm
  | cons a as ih =>
    simp only [insertNotice]
    rcases List.mem_cons.mp hm with rfl | hm
    · split
      · simp_all
      · split <;> simp
    · split <;> [simp [hm]; (split <;> simp [hm, ih hm])]

theorem mem_replaceNotice {n m : Notice} {l : List Notice} (hm : m ∈ l) (h : n.sameKey m = true) :
    n ∈ replaceNotice n l := List.mem_map.mpr ⟨m, hm, by simp [h]⟩

theorem mem_replaceNotice_of_other {n m : Notice} {l : List Notice} (hm : m ∈ l) (h : n.sameKey m = false) :
    m ∈ replaceNotice n l := List.mem_map.mpr ⟨m, hm, by simp [h]⟩

/-- The notice stands in the pending set or among the new notices of the event. -/
def Ev.Tells (e : Ev) (n : Notice) : Prop := n ∈ e.s.link.notices ∨ n ∈ e.fresh

theorem Ev.raise_tells {e : Ev} {k : NoticeKind} (subject : Nat) (data : List Byte)
    (h : e.s.link.mask.getLsbD (k.code - 1) = true) : (e.raise k subject data).Tells ⟨k, subject, data⟩ := by
  have enabled : e.s.link.enabled k = true := h
  simp only [Ev.raise, enabled]
  split
  · contradiction
  · split
    · obtain ⟨m, hm, same⟩ := List.any_eq_true.mp ‹_›
      exact .inl (mem_replaceNotice hm same)
    · exact .inr (mem_insertNotice _ _)

theorem Ev.raise_keeps_tells {e : Ev} {m : Notice} {k : NoticeKind} {subject : Nat} (data : List Byte)
    (hm : e.Tells m) (h : (⟨k, subject, data⟩ : Notice).sameKey m = false) : (e.raise k subject data).Tells m := by
  simp only [Ev.raise]
  split
  · exact hm
  · split
    · exact hm.imp_left fun hm => mem_replaceNotice_of_other hm h
    · exact hm.imp_right fun hm => mem_insertNotice_of_other hm h

theorem Link.pump_notices {l : Link} {n : Notice} (h : n ∈ l.notices) :
    n ∈ l.pump.notices ∨ (l.tx = none ∧ l.pump.tx = some n.frame) := by
  unfold Link.pump
  split
  · exact .inl h
  · exact .inl h
  · rename_i htx _ hl
    rw [hl] at h
    rcases List.mem_cons.mp h with rfl | h
    · exact .inr ⟨htx, rfl⟩
    · exact .inl h
  · rename_i hl
    simp [hl] at h

/-- The end of an event tells what its work tells. -/
theorem Ev.close_told {e : Ev} {n : Notice} (h : e.Tells n) :
    n ∈ e.close.link.notices ∨ (e.s.link.tx = none ∧ e.close.link.tx = some n.frame) := by
  rw [Ev.close_link]
  exact Link.pump_notices (l := e.s.link.join e.fresh) (List.mem_append.mpr h)

end Sys2Proof.Machine
end

