-- ==== Sys2Proof/Laws/Supply.lean ====
section
/-!
SUPPORT. What the Supply Limiter's shared operations do to its plant: the fans, the supply record, the groups
but for their route counts, and the zones' ventilation records, on which loads, classes and grants rest. The
guidance work that a change of a fan's state sets off leaves the plant as it is.
-/

namespace Sys2Proof

/-- A sum over a table after a write: the entry's old summand is gone and its new one added. -/
theorem sum_put {α : Type} {n : Nat} (t : Vector α n) (i : Fin n) (x : α) (f : α → Nat) :
    ((List.finRange n).map fun j => f ((put t i x).get j)).sum + f (t.get i) =
      ((List.finRange n).map fun j => f (t.get j)).sum + f x := by
  simp only [← Fin.sum_univ_def]
  rw [← Finset.add_sum_erase Finset.univ (fun j => f ((put t i x).get j)) (Finset.mem_univ i),
    ← Finset.add_sum_erase Finset.univ (fun j => f (t.get j)) (Finset.mem_univ i)]
  have h : ∑ j ∈ Finset.univ.erase i, f ((put t i x).get j) = ∑ j ∈ Finset.univ.erase i, f (t.get j) :=
    Finset.sum_congr rfl fun j hj => by rw [get_put_ne t x (Finset.ne_of_mem_erase hj)]
  rw [h, get_put_self]
  omega

end Sys2Proof

namespace Sys2Proof.Machine

/-! ### The plant -/

/-- A group but for its route count. -/
def Group.lit (x : Group) : Group := { x with routeCount := 0 }

/-- The fans, the supply record, the groups but for their route counts, and the ventilation records. -/
def State.plant (s : State) :
    Vector (Option Fan) 32 × Supply × Vector (Option Group) 64 × Vector (Option Vent) 24 :=
  (s.fans, s.supply, s.groups.map (Option.map Group.lit), s.zones.map (Option.map Zone.vent))

theorem State.plant_fans {s t : State} (h : s.plant = t.plant) : s.fans = t.fans := congrArg Prod.fst h

theorem State.plant_supply {s t : State} (h : s.plant = t.plant) : s.supply = t.supply :=
  congrArg (fun p => p.2.1) h

theorem State.plant_group {s t : State} (h : s.plant = t.plant) (g : GroupId) :
    (s.groups.get g).map Group.lit = (t.groups.get g).map Group.lit := by
  have h1 : s.groups.map (Option.map Group.lit) = t.groups.map (Option.map Group.lit) := congrArg (fun p => p.2.2.1) h
  simpa using congrArg (fun v => v.get g) h1

theorem State.plant_vent {s t : State} (h : s.plant = t.plant) (z : ZoneId) :
    (s.zones.get z).map Zone.vent = (t.zones.get z).map Zone.vent := by
  have h1 : s.zones.map (Option.map Zone.vent) = t.zones.map (Option.map Zone.vent) := congrArg (fun p => p.2.2.2) h
  simpa using congrArg (fun v => v.get z) h1

theorem foldl_plant {α : Type} {f : Ev → α → Ev} (h : ∀ e a, (f e a).s.plant = e.s.plant) (l : List α) (e : Ev) :
    (l.foldl f e).s.plant = e.s.plant := by
  induction l generalizing e with
  | nil => rfl
  | cons x xs ih => rw [List.foldl_cons, ih, h]

theorem State.updGroup_plant {f : Group → Group} (h : ∀ x, (f x).lit = x.lit) (s : State) (g : GroupId) :
    (s.updGroup g f).plant = s.plant := by
  unfold State.updGroup
  split
  · rename_i x hx
    simp only [State.plant, State.setGroup, map_put_same s.groups g (some (f x)) (Option.map Group.lit) (by simp [hx, h])]
  · rfl

/-! ### Work that leaves the plant -/

@[simp] theorem Ev.raise_plant (e : Ev) (k : NoticeKind) (n : Nat) (d : List Byte) :
    (e.raise k n d).s.plant = e.s.plant := by
  unfold Ev.raise
  dsimp only
  split
  · rfl
  · split <;> rfl

@[simp] theorem Ev.placeFan_plant (e : Ev) (f : FanId) : (e.placeFan f).s.plant = e.s.plant := by
  unfold Ev.placeFan
  split <;> rfl

@[simp] theorem Ev.placeGroup_plant (e : Ev) (g : GroupId) : (e.placeGroup g).s.plant = e.s.plant := by
  unfold Ev.placeGroup
  split <;> rfl

@[simp] theorem Ev.release_plant (e : Ev) (id : HoldId) : (e.release id).s.plant = e.s.plant := by
  have hd (e : Ev) (g : GroupId) : (e.dropRoute g).s.plant = e.s.plant :=
    State.updGroup_plant (f := fun x => { x with routeCount := x.routeCount - 1 }) (fun _ => rfl) _ _
  unfold Ev.release
  split
  · rfl
  · dsimp only
    rw [foldl_plant (fun e l => by split <;> rfl)]
    exact (foldl_plant hd _ _).trans rfl

theorem Ev.guide_plant {f : Zone → Zone} (hf : ∀ x, (f x).vent = x.vent) (e : Ev) (z : ZoneId) :
    (e.guide z f).s.plant = e.s.plant := by
  unfold Ev.guide
  split
  · rfl
  · rename_i old hz
    have h1 : (e.mapS fun s => s.setZone z (some (f old))).s.plant = e.s.plant := by
      simp only [Ev.mapS, State.plant, State.setZone,
        map_put_same e.s.zones z (some (f old)) (Option.map Zone.vent) (by simp [hz, hf])]
    dsimp only
    split
    · exact h1
    · split
      · split
        · rw [foldl_plant Ev.release_plant]; exact h1
        · exact (foldl_plant Ev.release_plant _ _).trans h1
      · split <;> exact h1

@[simp] theorem Ev.judgeVentilated_plant (e : Ev) (z : ZoneId) : (e.judgeVentilated z).s.plant = e.s.plant :=
  Ev.guide_plant (f := fun x => { x with causes := { x.causes with unventilated := e.s.unventilated z } })
    (fun _ => rfl) _ _

@[simp] theorem Ev.judgeServed_plant (e : Ev) (f : FanId) : (e.judgeServed f).s.plant = e.s.plant := by
  unfold Ev.judgeServed
  split
  · exact foldl_plant Ev.judgeVentilated_plant _ _
  · rfl

/-! ### The plant decides loads and classes -/

theorem Group.lit_load (x : Group) : x.lit.load = x.load := rfl

/-- The committed load (R156) with the load of an entry that is not defined written as an `elim`. -/
theorem State.committed_eq (s : State) :
    s.committed = s.supply.base + ((List.finRange 32).map fun f => (s.fans.get f).elim 0 Fan.load).sum +
      ((List.finRange 64).map fun g => (s.groups.get g).elim 0 Group.load).sum := by
  refine congrArg₂ (· + ·) (congrArg₂ (· + ·) rfl ?_) ?_
  · refine congrArg List.sum (List.map_congr_left fun f _ => ?_)
    cases s.fans.get f <;> rfl
  · refine congrArg List.sum (List.map_congr_left fun g _ => ?_)
    cases s.groups.get g <;> rfl

/-- States of one plant have one committed load. -/
theorem State.committed_congr {s t : State} (h : s.plant = t.plant) : s.committed = t.committed := by
  have hg (g : GroupId) : (s.groups.get g).elim 0 Group.load = (t.groups.get g).elim 0 Group.load := by
    have k (o : Option Group) : (o.map Group.lit).elim 0 Group.load = o.elim 0 Group.load := by cases o <;> rfl
    rw [← k, State.plant_group h g, k]
  simp only [State.committed_eq, State.plant_fans h, State.plant_supply h, hg]

/-- States of one plant have one set of zones in PURGE. -/
theorem State.purged_congr {s t : State} (h : s.plant = t.plant) (z : ZoneId) : s.purged z = t.purged z := by
  have := State.plant_vent h z
  unfold State.purged
  cases hs : s.zones.get z <;> cases ht : t.zones.get z <;> simp only [hs, ht, Option.map_some, Option.map_none,
    reduceCtorEq, Option.some.injEq] at this ⊢
  rw [this]

/-- The committed load after a fan's record is replaced. -/
theorem State.committed_setFan {s : State} {f : FanId} {x y : Fan} (h : s.fans.get f = some x) :
    (s.setFan f (some y)).committed + x.load = s.committed + y.load := by
  have := sum_put s.fans f (some y) fun o => o.elim 0 Fan.load
  simp only [h, Option.elim_some] at this
  simp only [State.committed_eq, State.setFan]
  omega

/-- The committed load after a group's record is replaced. -/
theorem State.committed_setGroup {s : State} {g : GroupId} {x y : Group} (h : s.groups.get g = some x) :
    (s.setGroup g (some y)).committed + x.load = s.committed + y.load := by
  have := sum_put s.groups g (some y) fun o => o.elim 0 Group.load
  simp only [h, Option.elim_some] at this
  simp only [State.committed_eq, State.setGroup]
  omega

/-! ### Commands, levels and faults -/

/-- A fan's record once its command has taken `v` (R132). -/
def Fan.commanded (x : Fan) (v now : Nat) : Fan :=
  if v = x.command then x else { x.enter (x.stateOnCommand v) now with command := v }

/-- A change of command changes the plant in the fan's record alone. -/
theorem Ev.setFanCommand_plant {e : Ev} {f : FanId} {x : Fan} (h : e.s.fans.get f = some x) (v : Nat) :
    (e.setFanCommand f v).s.plant = (e.s.setFan f (some (x.commanded v e.s.now))).plant := by
  unfold Ev.setFanCommand Fan.commanded
  simp only [h]
  split
  · simp only [State.plant, State.setFan, ← h, put_get]
  · split
    · rw [Ev.placeFan_plant]
      simp [Ev.updFan, Ev.markFan, Ev.markStop, Ev.mapS, State.updFan, h]
    · rw [Ev.judgeServed_plant, Ev.placeFan_plant]
      simp [Ev.updFan, Ev.markFan, Ev.markStop, Ev.mapS, State.updFan, h]

/-- A change of level changes the plant in the group's level alone. -/
theorem Ev.setGroupLevel_plant {e : Ev} {g : GroupId} {x : Group} (h : e.s.groups.get g = some x) (v : Nat) :
    (e.setGroupLevel g v).s.plant = (e.s.setGroup g (some { x with commanded := v })).plant := by
  unfold Ev.setGroupLevel
  simp only [h]
  split
  · rename_i hv
    subst hv
    simp only [State.plant, State.setGroup]
    rw [show some { x with commanded := x.commanded } = e.s.groups.get g from h.symm, put_get]
  · rw [Ev.placeGroup_plant]
    simp [Ev.updGroup, Ev.mapS, State.updGroup, h]

/-- What R133 lists for an entry to FAULT or a change of its reason, in the plant: the fan's record, and its
withdrawal from the deferred set. -/
theorem Ev.takeFault_plant {e : Ev} {f : FanId} {x : Fan} (h : e.s.fans.get f = some x) (r : FaultReason) :
    (e.takeFault f r).s.plant =
      ({ e.s.setFan f (some { x with
          state := .fault, reason := r, command := 0, startTimer := none, stopTimer := none, ramp := none }) with
        supply := { e.s.supply with deferredFans := put e.s.supply.deferredFans f none } } : State).plant := by
  unfold Ev.takeFault
  dsimp only
  rw [Ev.judgeServed_plant, Ev.raise_plant]
  have hp (e : Ev) : (e.placeFan f).s.plant = e.s.plant := Ev.placeFan_plant e f
  have hd (e : Ev) (v : Option Nat) : (e.deferFan f v).s.plant =
      (e.s.fans, { e.s.supply with deferredFans := put e.s.supply.deferredFans f v }, e.s.plant.2.2) := rfl
  rw [hd, State.plant_fans (hp _), State.plant_supply (hp _), hp]
  simp [Ev.updFan, Ev.markFan, Ev.markStop, Ev.mapS, State.updFan, h, State.plant]

end Sys2Proof.Machine
end

