-- ==== Sys2Proof/Laws/Units.lean ====
section
/-!
SUPPORT. What the units' shared operations leave, each said once as an equation of cores: the guidance of a
zone, the entry into and the end of a purge, and stages 5 and 6 with the fans' targets.
-/

namespace Sys2Proof

theorem put_put {α : Type} {n : Nat} (t : Vector α n) (i : Fin n) (x y : α) : put (put t i x) i y = put t i y := by
  simp [put]

end Sys2Proof

namespace Sys2Proof.Machine

/-! ### Updates of one zone and of one fan, up to essence -/

theorem State.essence_zones {s t : State} (h : s.essence = t.essence) (z : ZoneId) :
    (s.zones.get z).map Zone.essence = (t.zones.get z).map Zone.essence := by
  have h1 : s.zones.map (Option.map Zone.essence) = t.zones.map (Option.map Zone.essence) := congrArg State.zones h
  simpa using congrArg (fun v => v.get z) h1

theorem State.essence_fans {s t : State} (h : s.essence = t.essence) (f : FanId) :
    (s.fans.get f).map Fan.essence = (t.fans.get f).map Fan.essence := by
  have h1 : s.fans.map (Option.map Fan.essence) = t.fans.map (Option.map Fan.essence) := congrArg State.fans h
  simpa using congrArg (fun v => v.get f) h1

theorem State.setZone_congr {s t : State} (h : s.essence = t.essence) (z : ZoneId) {x y : Option Zone}
    (hx : x.map Zone.essence = y.map Zone.essence) : (s.setZone z x).essence = (t.setZone z y).essence := by
  have e : ∀ (s : State) (x : Option Zone),
      (s.setZone z x).essence = { s.essence with zones := put s.essence.zones z (x.map Zone.essence) } := by
    intro s x
    simp only [State.essence, State.setZone, map_put]
  rw [e, e, h, hx]

theorem State.updZone_congr {s t : State} (h : s.essence = t.essence) (z : ZoneId) {f : Zone → Zone}
    (hf : ∀ x y : Zone, x.essence = y.essence → (f x).essence = (f y).essence) :
    (s.updZone z f).essence = (t.updZone z f).essence := by
  have hz := State.essence_zones h z
  unfold State.updZone
  cases hs : s.zones.get z with
  | none => cases ht : t.zones.get z with
    | none => exact h
    | some y => simp [hs, ht] at hz
  | some x => cases ht : t.zones.get z with
    | none => simp [hs, ht] at hz
    | some y =>
      simp only [hs, ht, Option.map_some, Option.some.injEq] at hz
      exact State.setZone_congr h z (by simp [hf x y hz])

theorem State.setFan_congr {s t : State} (h : s.essence = t.essence) (f : FanId) {x y : Option Fan}
    (hx : x.map Fan.essence = y.map Fan.essence) : (s.setFan f x).essence = (t.setFan f y).essence := by
  have e : ∀ (s : State) (x : Option Fan),
      (s.setFan f x).essence = { s.essence with fans := put s.essence.fans f (x.map Fan.essence) } := by
    intro s x
    simp only [State.essence, State.setFan, map_put]
  rw [e, e, h, hx]

theorem State.updFan_congr {s t : State} (h : s.essence = t.essence) (f : FanId) {g : Fan → Fan}
    (hg : ∀ x y : Fan, x.essence = y.essence → (g x).essence = (g y).essence) :
    (s.updFan f g).essence = (t.updFan f g).essence := by
  have hz := State.essence_fans h f
  unfold State.updFan
  cases hs : s.fans.get f with
  | none => cases ht : t.fans.get f with
    | none => exact h
    | some y => simp [hs, ht] at hz
  | some x => cases ht : t.fans.get f with
    | none => simp [hs, ht] at hz
    | some y =>
      simp only [hs, ht, Option.map_some, Option.some.injEq] at hz
      exact State.setFan_congr h f (by simp [hg x y hz])

theorem State.updZone_updZone (s : State) (z : ZoneId) (f g : Zone → Zone) :
    (s.updZone z f).updZone z g = s.updZone z (g ∘ f) := by
  unfold State.updZone
  cases hs : s.zones.get z with
  | none => simp [hs]
  | some x => simp [State.setZone, put_put]

/-- A change of the state that respects essence and leaves the transmitter gives events of equal core events of
equal core. -/
theorem Ev.mapS_core_congr {e e' : Ev} (h : e.core = e'.core) {f f' : State → State}
    (hf : e.s.essence = e'.s.essence → (f e.s).essence = (f' e'.s).essence)
    (ht : (f e.s).link = e.s.link) (ht' : (f' e'.s).link = e'.s.link) : (e.mapS f).core = (e'.mapS f').core := by
  simp only [Ev.core, Ev.mapS, Prod.mk.injEq] at h ⊢
  rw [ht, ht']
  exact ⟨hf h.1, h.2⟩

/-! ### Guidance -/

/-- What `Ev.guide` leaves (R48 to R50): the zone changed by `f`; holds, heads and what follows them are
outside the core. -/
theorem Ev.guide_core_eq (e : Ev) (z : ZoneId) (f : Zone → Zone) :
    (e.guide z f).core = (e.mapS fun s => s.updZone z f).core := by
  unfold Ev.guide
  cases hz : e.s.zones.get z with
  | none => simp only [Ev.mapS, State.updZone, hz]
  | some old =>
    have h1 : (e.mapS fun s => s.setZone z (some (f old))).core = (e.mapS fun s => s.updZone z f).core := by
      simp only [Ev.mapS, State.updZone, hz]
    rw [← h1]
    dsimp only
    split
    · rfl
    · split
      · split
        · rw [foldl_core Ev.release_core]; rfl
        · rw [Ev.markRetry_core, foldl_core Ev.release_core]; rfl
      · split <;> rfl

/-! ### Purge -/

@[simp] theorem Ev.purgeGroups_core (e : Ev) (z : ZoneId) (d : Bool) : (e.purgeGroups z d).core = e.core := by
  unfold Ev.purgeGroups
  rw [foldl_core Ev.markGroup_core, Ev.reclass_core]

/-- What the entry into a purge leaves (R120 steps 1 to 3). -/
theorem Ev.enterPurge_core (e : Ev) (z : ZoneId) (c : PurgeCause) (duration : Nat) :
    (e.enterPurge z c duration).core =
      (e.mapS fun s => s.updZone z fun x => x.purging c duration e.s.now).core := by
  unfold Ev.enterPurge Ev.setCauses
  simp only [Ev.raise_core, Ev.servePromoted_core, Ev.purgeGroups_core, Ev.guide_core_eq]
  simp only [Ev.mapS, State.updZone_updZone]
  rfl

/-- What the end of a purge leaves (R125 steps 1 to 3). -/
theorem Ev.leavePurge_core (e : Ev) (z : ZoneId) (c : PurgeCause) :
    (e.leavePurge z c).core = (e.mapS fun s => s.updZone z Zone.purgeEnded).core := by
  unfold Ev.leavePurge Ev.setCauses
  simp only [Ev.raise_core, Ev.purgeGroups_core, Ev.guide_core_eq]
  simp only [Ev.mapS, State.updZone_updZone]
  rfl

/-- What a COMMANDED purge's change of cause leaves (R124). -/
theorem Ev.turnToGas_core (e : Ev) (z : ZoneId) :
    (e.turnToGas z).core = (e.mapS fun s => s.updZone z fun x => x.turnedToGas e.s.now).core := by
  unfold Ev.turnToGas
  rw [Ev.raise_core]
  rfl

/-! ### Stages 5 and 6 -/

/-- A fan with the target `v`, and outside STOPPING the wanted speed with it (R129). -/
def Fan.targeted (x : Fan) (p : PartState) (v : Nat) : Fan :=
  { x with target := v, wanted := if p = .stopping then x.wanted else v }

theorem Fan.targeted_congr (p : PartState) (v : Nat) {x y : Fan} (h : x.essence = y.essence) :
    (x.targeted p v).essence = (y.targeted p v).essence := by
  have hw : x.essence.wanted = y.essence.wanted := by rw [h]
  change x.wanted = y.wanted at hw
  have e : ∀ x : Fan, (x.targeted p v).essence =
      { x.essence with target := v, wanted := if p = .stopping then x.wanted else v } := fun _ => rfl
  rw [e, e, h, hw]

/-- A target depends on the Zs, the fan's served zones and its minimum speed. -/
theorem State.fanTarget_congr {s t : State} (h : s.essence = t.essence) {x y : Fan} (hs : x.served = y.served)
    (hm : x.minSpeed = y.minSpeed) : s.fanTarget x = t.fanTarget y := by
  have hr : x.raised = y.raised := funext fun v => by simp [Fan.raised, hm]
  unfold State.fanTarget
  rw [hs, hr]
  refine congrArg y.raised (congrArg (List.foldl max 0) (List.map_congr_left fun z _ => ?_))
  have hz := State.essence_zones h z
  cases hs : s.zones.get z <;> cases ht : t.zones.get z <;> simp only [hs, ht, Option.map_some, Option.map_none,
    Option.some.injEq, reduceCtorEq] at hz ⊢
  rename_i a b
  change a.essence.vent.z = b.essence.vent.z
  rw [hz]

/-- What a change of a fan's wanted speed leaves (R131). -/
theorem Ev.wantFan_core (e : Ev) (f : FanId) (w : Nat) :
    (e.wantFan f w).core = (e.mapS fun s => s.updFan f fun x => { x with wanted := w }).core := by
  have h : (e.updFan f fun x => { x with wanted := w }).core =
      (e.mapS fun s => s.updFan f fun x => { x with wanted := w }).core := by
    rw [Ev.updFan, Ev.markStop_core, Ev.markFan_core]
  unfold Ev.wantFan
  cases hx : e.s.fans.get f with
  | none => simp only [Ev.mapS, State.updFan, hx]
  | some x =>
    dsimp only
    rw [← h]
    split
    · rfl
    · split
      · exact Ev.deferFan_core _ _ _
      · split
        · exact Ev.deferFan_core _ _ _
        · rfl

theorem State.updFan_updFan (s : State) (i : FanId) (f g : Fan → Fan) :
    (s.updFan i f).updFan i g = s.updFan i (g ∘ f) := by
  unfold State.updFan
  cases hs : s.fans.get i with
  | none => simp [hs]
  | some x => simp [State.setFan, put_put]

/-- What a fan's target leaves (R129). -/
theorem Ev.retarget_core (e : Ev) (f : FanId) :
    (e.retarget f).core =
      (e.mapS fun s => s.updFan f fun x => x.targeted e.s.part (e.s.fanTarget x)).core := by
  unfold Ev.retarget
  cases hx : e.s.fans.get f with
  | none => simp only [Ev.mapS, State.updFan, hx]
  | some x =>
    dsimp only
    split
    · rename_i hp
      rw [Ev.updFan, Ev.markStop_core, Ev.markFan_core]
      simp only [Ev.mapS, State.updFan, hx, Fan.targeted, hp, if_true]
    · rename_i hp
      rw [Ev.wantFan_core]
      have h1 : (e.updFan f fun y => { y with target := e.s.fanTarget x }).s =
          e.s.updFan f fun y => { y with target := e.s.fanTarget x } := rfl
      simp only [Ev.mapS, Ev.core, h1, State.updFan_updFan]
      simp only [State.updFan, hx, Fan.targeted, hp, if_false, Function.comp]
      rfl

/-- The fans of a list take their targets. -/
def State.targetList (s : State) (τ : Fan → Fan) (l : List FanId) : State :=
  l.foldl (fun s f => s.updFan f τ) s

theorem Ev.foldl_retarget_core (τ : Fan → Fan) (hτ : ∀ x y : Fan, x.essence = y.essence → (τ x).essence = (τ y).essence)
    (l : List FanId) (e : Ev) (t : State) (he : e.s.essence = t.essence)
    (h : ∀ s' : State, s'.part = e.s.part → s'.zones.map (Option.map Zone.essence) = e.s.zones.map (Option.map Zone.essence) →
      ∀ x, x.targeted s'.part (s'.fanTarget x) = τ x) :
    (l.foldl Ev.retarget e).core = ((t.targetList τ l).essence, e.judgeRun, e.enteredConfig, e.s.link.tx, e.s.link.waiting) := by
  induction l generalizing e t with
  | nil => simp only [List.foldl_nil, State.targetList, Ev.core, he]
  | cons f l ih =>
    have hc := Ev.retarget_core e f
    have ht : (fun x : Fan => x.targeted e.s.part (e.s.fanTarget x)) = τ := funext fun x => h e.s rfl rfl x
    rw [ht] at hc
    have hs : (e.retarget f).s.essence = (e.s.updFan f τ).essence := congrArg Prod.fst hc
    have hz : ((e.retarget f).s).zones.map (Option.map Zone.essence) = e.s.zones.map (Option.map Zone.essence) := by
      have h1 := congrArg State.zones hs
      simpa [State.essence] using h1
    have hp : (e.retarget f).s.part = e.s.part := by
      have h1 := congrArg State.part hs
      simpa [State.essence] using h1
    have hrest := congrArg Prod.snd hc
    rw [List.foldl_cons, ih (e.retarget f) (t.updFan f τ) (hs.trans (State.updFan_congr he f hτ))
      (fun s' h1 h2 => h s' (h1.trans hp) (h2.trans hz))]
    simp only [Ev.core, Ev.mapS, Prod.mk.injEq, State.updFan_link] at hrest
    simp only [State.targetList, List.foldl_cons, hrest]

theorem State.updFan_rest (s : State) (f : FanId) (g : Fan → Fan) :
    s.updFan f g = { s with fans := (s.updFan f g).fans } := by
  unfold State.updFan
  split <;> rfl

theorem State.targetList_fans (τ : Fan → Fan) (l : List FanId) (hl : l.Nodup) (s : State) (i : FanId) :
    (s.targetList τ l).fans.get i = if i ∈ l then (s.fans.get i).map τ else s.fans.get i := by
  induction l generalizing s with
  | nil => rfl
  | cons f l ih =>
    have hf := List.nodup_cons.1 hl
    rw [State.targetList, List.foldl_cons]
    change ((s.updFan f τ).targetList τ l).fans.get i = _
    rw [ih hf.2, State.updFan_get]
    by_cases h : i = f
    · subst h
      simp [hf.1]
    · simp [h]

theorem State.targetList_rest (τ : Fan → Fan) (l : List FanId) (s : State) :
    s.targetList τ l = { s with fans := (s.targetList τ l).fans } := by
  induction l generalizing s with
  | nil => rfl
  | cons f l ih =>
    change (s.updFan f τ).targetList τ l = { s with fans := ((s.updFan f τ).targetList τ l).fans }
    have h := ih (s.updFan f τ)
    rw [State.updFan_rest s f τ] at h ⊢
    exact h

theorem State.servingFans_nodup (s : State) (z : ZoneId) : (s.servingFans z).Nodup :=
  (List.nodup_finRange 32).filter _

theorem State.mem_servingFans (s : State) (z : ZoneId) (f : FanId) :
    f ∈ s.servingFans z ↔ ∃ x, s.fans.get f = some x ∧ x.serves z = true := by
  unfold State.servingFans
  rw [List.mem_filter]
  cases hs : s.fans.get f <;> simp [List.mem_finRange]

/-- The fans serving a zone take their targets (R129). -/
theorem State.targetList_servingFans (s : State) (z : ZoneId) :
    s.targetList (fun x => x.targeted s.part (s.fanTarget x)) (s.servingFans z) = s.retargeted z := by
  rw [State.targetList_rest, State.retargeted]
  congr 1
  refine Vector.ext fun i hi => ?_
  have h := State.targetList_fans (fun x => x.targeted s.part (s.fanTarget x)) _ (s.servingFans_nodup z) s ⟨i, hi⟩
  rw [get_eq_getElem, get_eq_getElem] at h
  rw [h, Vector.getElem_map]
  have hm := s.mem_servingFans z ⟨i, hi⟩
  rw [get_eq_getElem] at hm
  cases hs : s.fans[i] with
  | none => simp
  | some x =>
    rw [hs] at hm
    by_cases hz : x.serves z = true
    · simp [hm, hz, Fan.targeted]
    · simp [hm, hz]

/-- What stages 5 and 6 leave (R114, R115, R129), and the recomputation of R116. -/
theorem Ev.demandStep_core {e : Ev} {z : ZoneId} {x : Zone} (h : e.s.zones.get z = some x) :
    (e.demandStep z).core = (e.mapS fun s => s.demanded z x).core := by
  let s1 : State := e.s.setZone z (some { x with vent := x.vent.stage5 x.profile })
  have h1 : (e.mapS fun s => s.updZone z fun x => { x with vent := x.vent.stage5 x.profile }) =
      { e with s := s1 } := by
    simp only [Ev.mapS, State.updZone, h, s1]
  unfold Ev.demandStep
  rw [h1]
  change ((s1.servingFans z).foldl Ev.retarget { e with s := s1 }).core = _
  rw [Ev.foldl_retarget_core (fun x => x.targeted s1.part (s1.fanTarget x)) ?_ _ { e with s := s1 } s1 rfl ?_,
    State.targetList_servingFans]
  · rfl
  · intro x y hxy
    have hs : x.essence.served = y.essence.served := by rw [hxy]
    have hm : x.essence.minSpeed = y.essence.minSpeed := by rw [hxy]
    change x.served = y.served at hs
    change x.minSpeed = y.minSpeed at hm
    rw [State.fanTarget_congr rfl hs hm]
    exact Fan.targeted_congr _ _ hxy
  · intro s' hp hz x
    have ht : s'.fanTarget x = s1.fanTarget x := by
      have hz' : ∀ z : ZoneId, (s'.zones.get z).map Zone.essence = (s1.zones.get z).map Zone.essence := by
        intro z
        simpa using congrArg (fun v => v.get z) hz
      unfold State.fanTarget
      refine congrArg x.raised (congrArg (List.foldl max 0) (List.map_congr_left fun z _ => ?_))
      have hz := hz' z
      cases hs : s'.zones.get z <;> cases ht : s1.zones.get z <;> simp only [hs, ht, Option.map_some, Option.map_none,
        Option.some.injEq, reduceCtorEq] at hz ⊢
      rename_i a b
      change a.essence.vent.z = b.essence.vent.z
      rw [hz]
    rw [ht, hp]

/-! ### Stages 5 and 6 up to essence -/

theorem Fan.essence_targeted_if (p : PartState) (v w : Nat) (z : ZoneId) {x y : Fan} (h : x.essence = y.essence)
    (hv : v = w) : (if x.serves z then x.targeted p v else x).essence = (if y.serves z then y.targeted p w else y).essence := by
  have hs : x.essence.served = y.essence.served := by rw [h]
  change x.served = y.served at hs
  subst hv
  have hc : x.serves z = y.serves z := by simp only [Fan.serves, hs]
  cases hy : y.serves z
  · simpa [hc, hy] using h
  · simpa [hc, hy] using Fan.targeted_congr p v h

theorem State.retargeted_congr {s t : State} (h : s.essence = t.essence) (z : ZoneId) :
    (s.retargeted z).essence = (t.retargeted z).essence := by
  have hp : s.part = t.part := by
    have h1 : s.essence.part = t.essence.part := by rw [h]
    exact h1
  have e : ∀ s : State, (s.retargeted z).essence =
      { s.essence with fans := (s.retargeted z).fans.map (Option.map Fan.essence) } := fun _ => rfl
  suffices hm : (s.retargeted z).fans.map (Option.map Fan.essence) = (t.retargeted z).fans.map (Option.map Fan.essence) by
    rw [e, e, h, hm]
  refine Vector.ext fun i hi => ?_
  have hf := State.essence_fans h ⟨i, hi⟩
  rw [get_eq_getElem, get_eq_getElem] at hf
  simp only [State.retargeted, Vector.getElem_map]
  cases hs : s.fans[i] <;> cases ht : t.fans[i] <;> simp only [hs, ht, Option.map_some, Option.map_none,
    Option.some.injEq, reduceCtorEq] at hf ⊢
  rename_i x y
  have hs : x.essence.served = y.essence.served := by rw [hf]
  have hm : x.essence.minSpeed = y.essence.minSpeed := by rw [hf]
  change x.served = y.served at hs
  change x.minSpeed = y.minSpeed at hm
  have := Fan.essence_targeted_if s.part _ _ z hf (State.fanTarget_congr h hs hm)
  simpa only [Fan.targeted, hp] using this

theorem State.demanded_congr {s t : State} (h : s.essence = t.essence) (z : ZoneId) {x y : Zone}
    (hx : x.essence = y.essence) : (s.demanded z x).essence = (t.demanded z y).essence := by
  refine State.retargeted_congr (State.setZone_congr h z ?_) z
  have hv : x.essence.vent = y.essence.vent := by rw [hx]
  have hp : x.essence.profile = y.essence.profile := by rw [hx]
  change x.vent = y.vent at hv
  change x.profile = y.profile at hp
  have e : ∀ x : Zone, ({ x with vent := x.vent.stage5 x.profile } : Zone).essence =
      { x.essence with vent := x.vent.stage5 x.profile } := fun _ => rfl
  simp only [Option.map_some, Option.some.injEq]
  rw [e, e, hx, hv, hp]

/-- Stages 5 and 6 after an operation whose core is known: `demanded` of the known state and record. -/
theorem Ev.demandStep_core_of {e : Ev} {z : ZoneId} {s : State} {x : Zone} (h : e.s.essence = s.essence)
    (hx : s.zones.get z = some x) :
    (e.demandStep z).core = ((s.demanded z x).essence, e.judgeRun, e.enteredConfig, e.s.link.tx, e.s.link.waiting) := by
  have hz := State.essence_zones h z
  rw [hx] at hz
  cases hy : e.s.zones.get z with
  | none => simp [hy] at hz
  | some y =>
    simp only [hy, Option.map_some, Option.some.injEq] at hz
    rw [Ev.demandStep_core hy]
    simp only [Ev.core, Ev.mapS, State.demanded_congr h z hz]
    rfl

end Sys2Proof.Machine
end

