-- ==== Sys2Proof/Tests/Slice0.lean ====
section
/-!
SUPPORT. The model's own tests: the checks of WellFormed, figures worked in the spec's own examples, and for
each statement with hypotheses a state and operands that meet them (`witness_…`).
-/

namespace Sys2Proof.Tests

open Sys2Proof Sys2Proof.Machine

set_option Elab.async false

/-! ### A small site -/

/-- A bay of `zone` in bucket 0, with a sensor, counted with its occupancy. -/
def someBay (zone : ZoneId) (group : Option GroupId) (occ : Occ) : Bay :=
  { newBay zone 0 false false group true with
    primary := some occ, occ := occ, counted := ⟨zone, 0, true, occ⟩, shadow := ⟨zone, 0, true, occ⟩ }

/-- The bay whose two inputs disagree. -/
def splitBay : Bay :=
  { someBay 1 none .occupied with primary := some .free, secondary := some .occupied, aliasIn := 1
                                  disagreeTimer := some 60000 }

/-- A bay that no input watches. -/
def bareBay : Bay := { someBay 1 none .unknown with primary := none }

/-- Table 0, bound to row 0.0: bays at positions 0 to 2, an alias of position 2, a bay without an input, and
EMPTY slots. -/
def table0 : Vector Slot 64 :=
  put (put (put (put (put tableReset 0 (.bay (someBay 0 (some 0) .free))) 1 (.bay (someBay 0 none .occupied)))
    2 (.bay splitBay)) 3 (.aliasTo ⟨0, 0, 2⟩)) 4 (.bay bareBay)

/-- The address of position `p` of row 0.0. -/
def spot (p : Fin 64) : Addr := ⟨0, 0, p⟩

/-- A zone with the default profile, in the overlay `o`, its evaluation due at 10 s. -/
def someZone (o : Overlay) : Zone :=
  let z := Zone.new Profile.default
  { z with
    causes := ⟨false, o == .purge .gas || o == .purge .commanded, false⟩
    vent := { z.vent with
      overlay := o, evalTimer := some 10000
      durationTimer := if o = .purge .commanded then some 60000 else none
      minPurgeTimer := if o = .purge .gas then some 600000 else none } }

/-- A fan of 22 kW serving `zones`, RUNNING at 50. -/
def someFan (zones : List ZoneId) : Fan :=
  { Fan.new zones 220 30 5 50 with state := .running, target := 60, wanted := 60, command := 50, ramp := some 2000 }

/-- A group of 4 kW in `zone`, with the default levels, steady at its base level. -/
def someGroup (zone : ZoneId) : Group := { Group.new zone 40 20 100 80 300 5 2 with wanted := 20, commanded := 20 }

/-- Station entry `b` on segment A at line address `line`. -/
def someStation (b : Binding) (line : Nat) : Station :=
  { Station.configured b true 0 line with firstHad := true, staleTimer := some 30000 }

/-- The inputs of the one bay concentrator: position 0 and position 2 of row 0.0. -/
def inputs0 : Vector (Option Addr) 16 := put (put (Vector.replicate 16 none) 0 (some (spot 0))) 2 (some (spot 2))

/-- The site in RUN: zones 0 to 3 (no overlay, BLIND, COMMANDED purge, GAS purge), fans, groups, lanes, a hold,
panels and stations of every kind, segment A in RUN with a poll of its gas head in flight. -/
def site : State :=
  { State.reset with
    part := .run
    levels := put State.reset.levels 0 ⟨true, false, 3, false⟩
    rows := put State.reset.rows 0 ⟨some 0, false, 3, false⟩
    tables := put State.reset.tables 0 table0
    live := [⟨0, 0, true, .free⟩, ⟨0, 0, true, .occupied⟩, ⟨1, 0, true, .occupied⟩, ⟨1, 0, true, .unknown⟩].foldl addCount
      State.reset.live
    zones := put (put (put (put State.reset.zones 0 (some (someZone .none))) 1 (some (someZone .blind))) 2
      (some (someZone (.purge .commanded)))) 3 (some (someZone (.purge .gas)))
    lanes := put (put (put State.reset.lanes 0 ⟨.entry, 0, [], [⟨0, 0, .assigned 0 0 0⟩, ⟨1, 1, .waiting⟩]⟩) 1
      ⟨.exit, 0, [0], []⟩) 2 ⟨.entry, 0, [], []⟩
    holds := put State.reset.holds 0 (some ⟨0, 0, 0, 0, [0], 180000⟩)
    holdOrder := [0]
    routes := put State.reset.routes 0 (some ⟨0, 0, 0, [0]⟩)
    panels := put (put State.reset.panels 0
      { Panel.reset with kind := .count [0, 1] 1, wanted := some .countFull, inFlight := some (.countFull, 3)
                         shownTag := some 2, lastReport := .busy, holdOff := some 5000 }) 1
      { Panel.reset with kind := .lane 0 }
    fans := put (put (put State.reset.fans 0 (some (someFan [0]))) 1
      (some { someFan [1] with state := .starting, startTimer := some 30000 })) 2
      (some { someFan [2, 3] with state := .fault, reason := .trip, command := 0, ramp := none })
    groups := put (put State.reset.groups 0 (some { someGroup 0 with routeCount := 1, state := .route, wanted := 80
                                                                     commanded := 80 })) 1
      (some { someGroup 2 with state := .forced, wanted := 100, commanded := 100 })
    stations := put (put (put (put (put (put State.reset.stations 0 (someStation (.gas 0) 1)) 1
      (someStation (.bay inputs0) 2)) 2 (someStation (.lane 0) 3)) 3
      (someStation (.fan (put (Vector.replicate 4 none) 0 (some 0))) 4)) 4
      (someStation (.light (put (Vector.replicate 8 none) 0 (some 0)) (Vector.replicate 8 none)) 5)) 5
      (someStation (.sign 0) 6)
    segments := put State.reset.segments 0
      { Segment.reset with mode := .run, exchange := some ⟨.poll, 0, [], some 8⟩, pollPos := 1, pollCount := 1 } }

/-- The site as it is configured, in CONFIG. -/
def setUp : State := { site.toConfig with part := .config }

/-- What `f` reads in the next state of an outcome. -/
def after {α : Type} (r : Result) (f : State → α) : Option α :=
  match r with
  | .next t => some (f t)
  | _ => none

/-- The reply that stands in the link. -/
def replied (s : State) : Option Frame := s.link.tx

/-! ### WellFormed refuses what no line can carry -/

theorem test_wf_link_payload_248 : (Instr.setCursor 0 (List.replicate 248 0)).wellFormed = true := by decide +kernel
theorem test_wf_link_payload_249 : (Instr.setCursor 0 (List.replicate 249 0)).wellFormed = false := by decide +kernel
theorem test_wf_unknown_kind_of_the_catalogue : (Instr.unknownKind 0x10 0 []).wellFormed = false := by decide +kernel
theorem test_wf_unknown_kind_payload : (Instr.unknownKind 0x01 0 (List.replicate 249 0)).wellFormed = false := by decide +kernel
theorem test_wf_field_payload_65 : (Instr.fieldGoodReply 0 (List.replicate 65 0)).wellFormed = false := by decide +kernel
theorem test_wf_line_error_of_nothing : (Instr.fieldLineError 0 .parity []).wellFormed = false := by decide +kernel
theorem test_wf_line_error_of_70 : (Instr.fieldLineError 0 .check (List.replicate 70 0)).wellFormed = false := by decide +kernel
theorem test_wf_gap_of_a_whole_frame : (Instr.fieldByteGap 0 (List.replicate 69 0)).wellFormed = false := by decide +kernel

/-! ### Figures worked in the spec -/

/-- R180's polynomial, initial value and bit order give the catalogue value of this CRC-16 for "123456789". -/
theorem test_crc : crcBytes [0x31, 0x32, 0x33, 0x34, 0x35, 0x36, 0x37, 0x38, 0x39] = [0x29, 0xB1] := by decide +kernel

/-- R177 by hand: seven ones shifted by x^7 + x^6 + 1 give 2, 12, 40. -/
theorem test_prbs : (prbsBytes 3 (BitVec.allOnes 7)).2 = [2, 12, 40] := by decide +kernel

/-- Section 8.8: the loads of fans 7, 12 and 20 and of group 41. -/
theorem test_powers : fanPower 220 30 = 6 ∧ fanPower 150 56 = 27 ∧ fanPower 150 57 = 28 ∧ fanPower 300 60 = 65 ∧
    groupPower 60 75 = 45 := by decide +kernel

/-- Section 8.8: with a headroom of 8 fan 12 is granted 56 of the 60 it asks. -/
theorem test_partial_grant : largestFit (fanPower 150) 50 8 10 = 56 := by decide +kernel

/-- Section 5.7, t = 10 and t = 20: the averages of zone 11. -/
theorem test_averages : shortAverage 880 58 = 886 ∧ longAverage 800 58 = 802 ∧ longAverage 368 24 = 368 ∧
    shortAverage 886 430 = 1635 ∧ longAverage 802 430 = 896 := by decide +kernel

/-- Zone 3 of section 6.7 before t = 0. -/
def zone3 : Zone :=
  let z := Zone.new Profile.default
  { z with
    air := ⟨true, 480, 560, 320, 288, false, false, false, true⟩
    vent := { z.vent with m := 12, e := 5, ventilating := true } }

/-- Section 6.7, t = 0: stages 1 to 3 and 5 of the evaluation of zone 3. -/
theorem test_evaluation :
    let y := zone3.evaluated true 2 62 31 0
    let v := y.vent.stage5 y.profile
    [y.air.aCo, y.air.lCo, y.air.aNo2, y.air.lNo2] = [544, 566, 342, 291] ∧
    [v.dCo, v.dNo2, v.dTraffic, v.m, v.e, v.demand, v.z] = [12, 28, 21, 14, 0, 28, 28] := by decide +kernel

/-- Section 4.7, t = 0.60: READY with the tag in flight. -/
theorem test_ready :
    let x : Panel := { Panel.reset with kind := .count [6, 7] 0xC0, inFlight := some (.countNumber 13, 10), shownTag := some 9 }
    (x.ready 10 600).shown = some (.countNumber 13) ∧ (x.ready 10 600).holdOff = some 5600 := by decide +kernel

/-- Section 7.11, t = 0: a headroom of 16 grants group 33 level 60 of 80. -/
theorem test_group_grant : largestFit (groupPower 40) 20 16 60 = 60 := by decide +kernel

/-- The state of section 1.6.1 for the first descriptors, without zone 4's other bays. -/
def loading : State :=
  { State.reset with
    levels := put State.reset.levels 2 ⟨true, false, 3, false⟩
    rows := put State.reset.rows 69 ⟨some 17, false, 3, false⟩
    cursor := some ⟨2, 5, 61⟩ }

/-- Section 1.6.1: three slots loaded, the fourth refused with NO_OBJECT in row 2.6; the counts and the cursor. -/
theorem test_load :
    let d : List Byte := [1, 4, 3, 12, 0, 0, 0, 0] ++ [1, 4, 5, 12, 0, 0, 0, 0] ++ [2, 2, 5, 61, 0, 0, 0, 0] ++
      [1, 4, 3, 13, 0, 0, 0, 0]
    after (exec (.loadSlots 1 d) loading) (fun t => ((t.live.get 4).total, (t.live.get 4).unknown, t.cursor,
      replied t)) = some (2, 2, some ⟨2, 6, 0⟩, some ⟨0x82, 1, [5, 3, 0, 6]⟩) := by decide +kernel

/-! ### One command each -/

/-- R180 to R183: the bytes of a whole Read Status frame get a DONE reply with the frame's tag. -/
theorem test_frame_by_bytes :
    let t := ([0xA5, 3, 0x33, 9, 0] ++ crcBytes [3, 0x33, 9, 0]).foldl (fun (s : State) b => s.linkByte b true) State.reset
    t.link.tx.map (fun f : Frame => (f.kind, f.tag)) = some (0x80, 9) := by decide +kernel

/-- R182: a KIND outside the catalogue, reason 1, field 0, value KIND. -/
theorem test_unknown_kind : after (exec (.unknownKind 0x7F 5 []) site) replied = some (some ⟨0x82, 5, [1, 0, 0, 0x7F]⟩) := by
  decide +kernel

/-- R190 and chapter 0 section 7: the straps at 01 give 115,200. -/
theorem test_power_reset : after (exec (.powerReset false true) site) (fun t => (t.part, t.link.rate)) =
    some (.config, .r115200) := by decide +kernel

/-- R182: Set Cursor with level 8 is refused with RANGE, field 0, value 8. -/
theorem test_cursor_range : after (exec (.setCursor 3 [8, 0, 0]) site) replied = some (some ⟨0x82, 3, [4, 0, 0, 8]⟩) := by
  decide +kernel

/-- R188: Stop SAFE in CONFIG is refused with WRONG_STATE, value CONFIG. -/
theorem test_stop_wrong_state : after (exec (.stopSafe 3) setUp) replied = some (some ⟨0x82, 3, [3, 0, 0, 0]⟩) := by
  decide +kernel

/-- R186, R176: Start in CONFIG and Begin Loop Test are answered ACCEPTED. -/
theorem test_start : after (exec (.start 7 []) setUp) (fun t => (t.part, replied t)) =
    some (.starting, some ⟨0x81, 7, []⟩) := by decide +kernel
theorem test_begin_loop_test : after (exec (.beginLoopTest 7 [0, 1, 0, 0x0F, 0xA0]) setUp) (fun t =>
    (replied t, (t.segments.get 0).exchange.map fun x => x.sent.take 3)) =
    some (some ⟨0x81, 7, []⟩, some [2, 12, 40]) := by decide +kernel

/-- R96, R120, R121: a CO reading at the peak level puts the zone into GAS purge, closed, with Z at 100. -/
theorem test_peak_trip : after (exec (.fieldGoodReply 0 [1, 0x90, 0, 5, 0]) site) (fun t =>
    ((t.zones.get 0).map fun z => (z.vent.overlay, z.causes.purge, z.vent.z))) =
    some (some (.purge .gas, true, 100)) := by decide +kernel

/-- R140, R142, R144: group 0 with one route in use and no presence is ROUTE at 80. -/
theorem test_presence_runs_out :
    let s := site.updGroup 0 fun x => { x with presenceTimer := some 300000, state := .presence, wanted := 100, commanded := 100 }
    after (exec (.presenceTimerExpiry 0) s) (fun t => (t.groups.get 0).map fun x => (x.state, x.wanted, x.movement)) =
      some (some (.route, 80, .fading)) := by decide +kernel

/-- R130: fan 0 at 50 wanting 60 takes a step of 5. -/
theorem test_ramp : after (exec (.rampTimerExpiry 0) site) (fun t => (t.fans.get 0).map fun x => (x.command, x.ramp)) =
    some (some (55, some 4000)) := by decide +kernel

/-- R170: a first miss makes station 1 SUSPECT; its next ordinary poll is station 2 (section 9.4.1). -/
theorem test_timeout : after (exec (.fieldTimeout 0) site) (fun t =>
    ((t.stations.get 0).state, (t.segments.get 0).exchange.map fun x => x.station)) = some (.suspect, some 1) := by
  decide +kernel

/-- R14 by hand: the walk of the alias at 0.0.3 ends at the bay 0.0.2, OCCUPIED, open, level 0, counted in zone 1. -/
theorem test_probe : after (exec (.probeBay 4 [0, 0, 3]) site) replied =
    some (some ⟨0x80, 4, [3, 1, 0, 0, 2, 0, 0, 0, 0, 1, 1, 1, 0, 1, 1, 0, 255]⟩) := by decide +kernel

/-- R17: BL above 3, a byte 2 of 16, is refused with RANGE by descriptor number and value. -/
theorem test_load_bl_range : after (exec (.loadSlots 4 [1, 0, 16, 255, 0, 0, 0, 0]) setUp) replied =
    some (some ⟨0x82, 4, [4, 0, 0, 16]⟩) := by decide +kernel

/-- R166: the removal of entry 1 with the line address of entry 2 is refused with CONFLICT. -/
theorem test_removal_conflict : after (exec (.defineStation 4 [1, 0, 0, 0, 2]) setUp) replied =
    some (some ⟨0x82, 4, [6, 4, 0, 2]⟩) := by decide +kernel

/-- R161, R133: a fan that changes its fault reason serves no member; one that enters FAULT does. -/
theorem test_fault_serves :
    let s : State := { site with supply := { Supply.reset with
      mode := .standby, limit := 500, deferredFans := put Supply.reset.deferredFans 1 (some 55) } }
    let late := s.updFan 2 fun x => { x with reason := .startTimeout }
    (((Ev.begin late).fanReport 2 .tripped).s.fans.get 1).map (·.command) = some 50 ∧
    (((Ev.begin late).fanReport 2 .tripped).s.fans.get 2).map (·.reason) = some .trip ∧
    (((Ev.begin s).fanReport 0 .tripped).s.fans.get 1).map (·.command) = some 55 := by decide +kernel

/-- Section 10.7: the 13 bytes of Read Loop Result without a record. -/
theorem test_loop_result_none : after (exec (.readLoopResult 4 [1]) site) replied =
    some (some ⟨0x80, 4, [0, 0, 0, 0, 0, 0, 0, 0, 0, 0, 0, 0, 0]⟩) := by decide +kernel

/-! ### Witnesses: the hypotheses of each statement met together

Each theorem names the statement it is for, and takes a clause at a time; `site` and `setUp` have no request in
hand. -/

/-- A state whose receiver is `r`. -/
def rx (r : Receiver) : State := site.setLink { site.link with receiver := r, gapTimer := some 10 }

/-- A state whose transmitter sends a frame, with `r` waiting and the pending notices `ns`. -/
def sending (r : Option Frame) (ns : List Notice) : State :=
  site.setLink { site.link with tx := some ⟨0x80, 1, []⟩, waiting := r, notices := ns }

theorem witness_no_request_in_hand : site.link.waiting = none ∧ setUp.link.waiting = none ∧ site.running = true ∧
    site.part ≠ .stopping ∧ site.part ≠ .config ∧ setUp.part = .config := by decide +kernel

theorem witness_StepTakesTheFront : State.reset.pending = [] := by decide

theorem witness_ReceiverTakesBytes :
    (rx .hunt).link.receiver = .hunt ∧ (rx .length).link.receiver = .length ∧
    2 ≤ (2 : Byte).toNat ∧ (2 : Byte).toNat ≤ 250 ∧ 2 ≤ (250 : Byte).toNat ∧ (250 : Byte).toNat ≤ 250 ∧
    (1 : Byte).toNat < 2 ∧ 250 < (251 : Byte).toNat ∧
    (rx (.body 2 [0x33])).link.receiver = .body 2 [0x33] ∧ (rx (.body 3 [0x33])).link.receiver = .body 3 [0x33] ∧
    (rx (.check 2 [0x30, 1] none)).link.receiver = .check 2 [0x30, 1] none ∧
    (rx (.check 2 [0x30, 1] (some 0))).link.receiver = .check 2 [0x30, 1] (some 0) ∧
    crcBytes (byte 2 :: [0x30, 1]) ≠ [0, 0] := by decide +kernel

theorem witness_LinkDiscards : (rx .length).link.gapTimer = some 10 ∧ site.link.gapTimer = none ∧
    requestRow 0x32 1 [] = some (.restart 1 []) ∧ (sending (some ⟨0x80, 2, []⟩) []).link.waiting.isSome = true ∧
    requestRow 0x31 1 [1] = some (.stopSafe 1) ∧ requestRow 0x7F 1 [] = some (.unknownKind 0x7F 1 []) := by decide +kernel

theorem witness_GoodFrameIsItsRow :
    (rx (.check 2 [0x30, 1] (some 183))).link.receiver = .check 2 (0x30 :: 1 :: []) (some 183) ∧
    crcBytes (byte 2 :: 0x30 :: 1 :: []) = [183, 72] ∧
    requestRow 0x30 1 [] = some (.start 1 []) := by decide +kernel

theorem witness_TransmitterOrder :
    site.link.tx = none ∧
    (sending (some ⟨0x80, 2, []⟩) []).link.tx = some ⟨0x80, 1, []⟩ ∧
    (sending (some ⟨0x80, 2, []⟩) []).link.waiting = some ⟨0x80, 2, []⟩ ∧
    (sending none [⟨.started, 0, []⟩]).link.waiting = none ∧
    (sending none [⟨.started, 0, []⟩]).link.notices = [⟨.started, 0, []⟩] ∧
    (sending none []).link.notices = [] := by decide +kernel

theorem witness_RefusedRequestChangesNothing :
    requestRow 0x10 1 [8, 0, 0] = some (.setCursor 1 [8, 0, 0]) ∧ (0x10 : Byte) ≠ 0x11 ∧
    (requestOf 0x10 [8, 0, 0] (Ev.begin site)).1 = .reject ⟨.range, 0, 8⟩ ∧
    (0x18 : Byte).toNat ∉ requestCodes ∧ (0x0F : Byte).toNat ∉ requestCodes := by decide +kernel

/-- The site's laws hold, and a step from it answers a next state. -/
theorem witness_NoticeLaw : NoticeLaw (sending none [⟨.started, 0, []⟩, ⟨.fanFault, 1, [1]⟩]) := by
  unfold NoticeLaw; decide +kernel

theorem witness_QueueLaw : QueueLaw site := by unfold QueueLaw; decide +kernel

theorem witness_HoldLaw : HoldLaw site := by unfold HoldLaw; decide +kernel

theorem witness_HoldBooks : HoldBooks site := by unfold HoldBooks; decide +kernel

theorem witness_ClosureLaw : ClosureLaw site := by
  have h : ∀ id : HoldId, ∀ h ∈ site.holds.get id, ∀ x ∈ site.zones.get h.zone, x.guidance ≠ .closed := by decide +kernel
  exact fun id k x hk hx => h id k hk x hx

theorem witness_ConfigRests : ConfigRests site ∧ ConfigRests setUp := by
  refine ⟨fun h => absurd h (by decide +kernel), fun _ => ⟨by decide +kernel, by decide +kernel, ?_⟩⟩
  have h : ∀ g : Seg, (setUp.segments.get g).mode ≠ .run ∧ ∀ x ∈ (setUp.segments.get g).exchange, x.kind = .test := by
    decide +kernel
  exact fun g => ⟨(h g).1, fun x hx => (h g).2 x hx⟩

theorem witness_AirLaw : AirLaw site := by
  refine ⟨by unfold Reading.bounded; decide +kernel, ?_⟩
  have h : ∀ z : ZoneId, ∀ x ∈ site.zones.get z, x.air.bounded := by unfold Air.bounded; decide +kernel
  exact fun z x hx => h z x hx

theorem witness_DemandLaw : DemandLaw site := by
  have h : ∀ z : ZoneId, ∀ x ∈ site.zones.get z,
      x.profile.inRange ∧ x.pendingProfile = none ∧ x.vent.bounded := by
    unfold Profile.inRange Vent.bounded; decide +kernel
  exact fun z x hx => ⟨(h z x hx).1, fun p hp => by simp [(h z x hx).2.1] at hp, (h z x hx).2.2⟩

theorem witness_FanLaw : FanLaw site := by
  have h : ∀ f : FanId, ∀ x ∈ site.fans.get f,
      x.minSpeed ≤ 60 ∧ x.safeSpeed ≤ 100 ∧ (x.target = 0 ∨ x.minSpeed ≤ x.target) ∧ x.target ≤ 100 ∧
      (x.wanted = 0 ∨ x.minSpeed ≤ x.wanted) ∧ x.wanted ≤ 100 := by decide +kernel
  exact fun f x hx => h f x hx

theorem witness_PurgeLaw : PurgeLaw site := by
  have h : ∀ z : ZoneId, ∀ x ∈ site.zones.get z, site.purged z = true → x.causes.purge = true ∧
      ∀ g : GroupId, ∀ y ∈ site.groups.get g, y.zone = z → y.state = .forced := by decide +kernel
  exact fun z x hx => ⟨fun hp => ⟨(h z x hx hp).1, fun g y hy => (h z x hx hp).2 g y hy⟩,
    fun hc => absurd hc (by decide +kernel)⟩

theorem witness_a_step : Runs { site with pending := [.closeZone 1 [0]] } := ⟨_, rfl⟩

/-- The site with its recount in flight: row `k` is next. -/
def scanning (k : RowKey) : State := { site with recount := .scanning k 0 }

theorem witness_CursorAndSlots : site.cursor = some ⟨0, 0, 0⟩ ∧
    (∀ n : Nat, n = 1 ∨ n = 24 → 1 ≤ n ∧ n ≤ 24) ∧
    ({ site with cursor := some ⟨7, 31, 63⟩ } : State).cursor = some ⟨7, 31, 63⟩ := by
  exact ⟨by decide +kernel, by omega, rfl⟩

theorem witness_ProbeReportsTheWalk :
    site.stage (spot 2) = .slot (.bay splitBay) ∧ site.stage (spot 3) = .slot (.aliasTo (spot 2)) ∧
    site.stage (spot 5) = .slot .empty ∧ (site.levels.get 7).present = false ∧
    (site.levels.get 0).present = true ∧ (site.rows.get (Addr.mk 0 1 0).rowKey).table = none ∧
    site.walk (spot 2) = ⟨.bay (spot 2) splitBay, none⟩ ∧ site.walk (spot 3) = ⟨.bay (spot 2) splitBay, some (spot 2)⟩ ∧
    site.walk (spot 5) = ⟨.empty, none⟩ ∧ site.walk ⟨7, 0, 0⟩ = ⟨.noLevel, none⟩ ∧
    site.walk ⟨0, 1, 0⟩ = ⟨.noRow, none⟩ := by decide +kernel

theorem witness_SweepRow : (site.rows.get (Addr.mk 0 0 0).rowKey).table ≠ some (63 : TableId) := by decide +kernel

theorem witness_LevelWritten :
    ((1 : Byte) != 0) = (site.levels.get 0).present ∧ site.running = true ∧
    (((0 : Byte) != 0) = false → setUp.levelBound 7 = false) ∧ setUp.running = false ∧
    site.recount = .idle ∧ (scanning 3).recount = .scanning 3 0 := by decide +kernel

/-- Level 0 with its row 0 bound to table 0, one bay in it and no input. -/
def unwatched : State :=
  { State.reset with
    levels := put State.reset.levels 0 ⟨true, false, 3, false⟩
    rows := put State.reset.rows 0 ⟨some 0, false, 3, false⟩
    tables := put State.reset.tables 0 (put tableReset 2 (.bay bareBay)) }

/-- Write Row: a row unbound, one bound anew, and one that keeps its table. -/
theorem witness_RowWritten :
    (unwatched.rows.get 0).table ≠ none ∧ (none : Option TableId) ≠ (unwatched.rows.get 0).table ∧
    unwatched.tableEngaged 0 = false ∧ unwatched.part ≠ .stopping ∧ unwatched.running = false ∧
    (unwatched.rows.get 1).table = none ∧ (unwatched.levels.get 0).present = true ∧
    some 0 = (site.rows.get 0).table ∧ site.running = true := by decide +kernel

theorem witness_RowWritten_tables : (∀ j : RowKey, (State.reset.rows.get j).table ≠ some 63) ∧
    ∀ j : RowKey, j ≠ 0 → (unwatched.rows.get j).table ≠ some 0 := by decide +kernel

theorem witness_clearRow : (unwatched.rows.get 0).table = some 0 ∧
    (unwatched.levels.get (Addr.ofRow 0 0).level).present = true := by decide +kernel

/-- `setUp` with its cursor at position `p` of row 0.0. -/
def aimed (p : Fin 64) : State := { setUp with cursor := some (spot p) }

theorem witness_LoadSlotsInConfig :
    (aimed 5).part = .config ∧ (aimed 5).link.waiting = none ∧ (aimed 5).stage (spot 5) = .slot .empty ∧
    ((aimed 5).bayAt (spot 0)).map Bay.aliasIn = some 0 ∧
    ((aimed 4).bayAt (spot 4)).map Bay.aliasIn = some 0 ∧ (aimed 4).boundInput (spot 4) = false ∧
    firstFail (descriptorChecks (aimed 5) [1, 0, 0, 255, 0, 0, 0, 0] 0) = none ∧
    firstFail (descriptorChecks { (aimed 5).applyDescriptor (spot 5) [1, 0, 0, 255, 0, 0, 0, 0] with cursor := (spot 5).next }
      [1, 24, 0, 255, 0, 0, 0, 0] 1) = some ⟨.range, 1, 24⟩ ∧ 15 < (16 : Byte).toNat := by
  decide +kernel

theorem witness_LoadSlotsRewritesBay : site.running = true ∧ site.cursor = some (spot 0) ∧
    site.stage (spot 0) = .slot (.bay (someBay 0 (some 0) .free)) := by decide +kernel

theorem witness_RecountScansAndCompletes : site.recount = .idle ∧ (scanning 254).recount = .scanning 254 0 ∧
    (254 : RowKey).val < 255 ∧ (scanning 255).recount = .scanning 255 0 := by decide +kernel

theorem witness_OccupancyAndDisagreement : splitBay.disagrees = true ∧ (someBay 0 none .free).disagrees = false ∧
    site.stage (spot 2) = .slot (.bay splitBay) ∧ splitBay.disagreeTimer = some 60000 := by decide +kernel

theorem witness_OccupancyChange : (Ev.begin site).s.stage (spot 0) = .slot (.bay (someBay 0 (some 0) .free)) := by
  decide +kernel

/-- Zones 0 (open, with a hold) and 3; hold 0 once no head has it; a hold entry that is free. -/
theorem witness_ZonesClosedAndHoldsExpired :
    site.zones.get 0 = some (someZone .none) ∧ (someZone .none).guidance ≠ .closed ∧
    (site.holds.get 0).isSome = true ∧ site.holds.get 127 = none ∧
    (let s := site.setLane 0 ⟨.entry, 0, [], []⟩
     (s.holds.get 0).isSome = true ∧
      ∀ l : LaneId, (s.lanes.get l).headNoSpace = false ∧ (s.lanes.get l).headHolds 0 = false) := by decide +kernel

/-- Define Lane with no movement zone and with four; Define Route for a new key, a known key and its removal,
and the removal of a key that is not in the table. -/
theorem witness_LaneAndRouteDefined :
    (∀ z ∈ ([0, 1, 2, 3] : List ZoneId), (setUp.zones.get z).isSome = true) ∧ ([0, 1, 2, 3] : List ZoneId).Nodup ∧
    (site.lanes.get 0).direction = .entry ∧ (site.zones.get 0).isSome = true ∧
    (∀ g ∈ ([0, 1] : List GroupId), (site.groups.get g).isSome = true) ∧ ([0, 1] : List GroupId).Nodup ∧
    (match site.routeFor 0 0 with
      | some x => some x.1
      | none => none) = some 0 ∧
    site.routeFor 0 1 = none ∧ site.freeRoute = some 1 ∧ (site.lanes.get 0).headNoSpace = false := by decide +kernel

theorem witness_PermittedBuckets : ((Ev.begin site).s.lanes.get 0).direction = .entry ∧
    ((Ev.begin site).s.lanes.get 0).queue.length < 4 := by decide +kernel

/-- The site with a WAITING head on lane 2, a route from it to zone 0 and a second free bay there. -/
def queueing : State :=
  { site.setLane 2 ⟨.entry, 0, [], [⟨0, 0, .waiting⟩]⟩ with
    routes := put site.routes 1 (some ⟨2, 0, 0, []⟩), live := addCount site.live ⟨0, 0, true, .free⟩ }

theorem witness_HeadAssigned :
    (queueing.lanes.get 2).queue = [⟨0, 0, .waiting⟩] ∧ queueing.recounting = false ∧ queueing.freeHold = some 1 ∧
    (queueing.candidate 2 0 0).isSome = true ∧ (scanning 0).recounting = true ∧
    (site.lanes.get 0).queue ≠ [] ∧ (∀ z, site.candidate 0 0 z = none) ∧
    queueing.zones.get 0 = some (someZone .none) ∧ (someZone .none).guidance ≠ .closed ∧
    queueing.routes.get 1 = some ⟨2, 0, 0, []⟩ ∧ (0 : Bucket) ∈ permitted 0 ∧ 0 < queueing.netFree 0 0 := by decide +kernel

theorem witness_ReportsChangeNothing : site.zones.get 0 = some (someZone .none) ∧ (site.fans.get 0).isSome = true ∧
    (site.groups.get 0).isSome = true ∧ (site.lanes.get 0).direction ≠ .none := by decide +kernel

/-- An open zone with a free bay and one without, a closed zone, and an arrival in each state. -/
theorem witness_PanelContents :
    site.zoneClosed 0 = false ∧ 0 < queueing.netFree 0 0 ∧ (∀ b : Bucket, site.netFree 1 b ≤ 0) ∧
    site.zoneClosed 1 = false ∧ site.zoneClosed 2 = true ∧ (site.lanes.get 2).queue = [] ∧
    (queueing.lanes.get 2).queue = [⟨0, 0, .waiting⟩] ∧
    ((site.setLane 2 ⟨.entry, 0, [], [⟨0, 0, .noSpace⟩]⟩).lanes.get 2).queue = [⟨0, 0, .noSpace⟩] ∧
    (site.lanes.get 0).queue = [⟨0, 0, .assigned 0 0 0⟩, ⟨1, 1, .waiting⟩] := by decide +kernel

/-- Panel 0 of the site has update 3 in flight and shows tag 2; `Panel.reset` has neither. -/
theorem witness_PanelHandshake :
    (site.panels.get 0).inFlight = some (.countFull, 3) ∧ (2 : Byte) ≠ 3 ∧ (site.panels.get 0).shownTag = some 2 ∧
    (site.panels.get 0).shownTag ≠ some 4 ∧ Panel.reset.inFlight = none ∧ Panel.reset.shownTag = none ∧
    (let x : Panel := { Panel.reset with wanted := some .countFull, shownTag := some 2, shown := some .countFull }
     x.inFlight = none ∧ x.shownTag ≠ some 4 ∧ x.shownTag ≠ none ∧ (x.ready 4 0).shown = none ∧
      (x.ready 4 0).wanted.isSome = true ∧ (x.ready 4 0).inFlight = none ∧ (x.ready 4 0).holdOff = none) := by
  decide +kernel

theorem witness_PanelDefinedAndHoldOff :
    (1 : Byte) ≠ 0 ∧ ([(0, 0)] : List (ZoneId × Byte)).length = 1 ∧
    (([(0, 0), (1, 0), (2, 0), (3, 0)] : List (ZoneId × Byte)).map Prod.fst).Nodup ∧
    (∀ z ∈ ([0, 1, 2, 3] : List ZoneId), (setUp.zones.get z).isSome = true) ∧
    2 * 4 + ([] : List Byte).length = 8 ∧ (setUp.lanes.get 2).direction = .entry ∧
    (∀ j : PanelId, j ≠ 2 → (setUp.panels.get j).kind ≠ .lane 2) ∧
    (site.panels.get 0).holdOff = some 5000 ∧ (site.panels.get 1).holdOff = none := by decide +kernel

theorem witness_AveragesAtEvaluation : Air.reset.seeded = false ∧ zone3.air.seeded = true := by decide

/-- The branches of AirTests: levels at and just under the advisory and its clearing level (640 in sixteenths). -/
theorem witness_AirTests :
    let y (l : Nat) := ({ zone3 with air := { zone3.air with lCo := l, lNo2 := 0 } } : Zone).airStep true 0 0 0
    (y 800).air.seeded = true ∧ 16 * (y 800).profile.co.advisory ≤ (y 800).air.lCo ∧
    (y 639).air.lCo < 16 * ((y 639).profile.co.advisory * 4 / 5) ∧
    (y 639).air.lNo2 < 16 * ((y 639).profile.no2.advisory * 4 / 5) ∧
    16 * ((y 640).profile.co.advisory * 4 / 5) ≤ (y 640).air.lCo ∧ (y 640).air.lCo < 16 * (y 640).profile.co.advisory ∧
    (y 640).air.lNo2 < 16 * (y 640).profile.no2.advisory ∧
    ((Zone.new Profile.default).airStep true 0 0 0).air.seeded = false := by decide +kernel

/-- A zone's valid head: the site's GAS station once it has reported. -/
theorem witness_validity :
    0 < (site.updStation 0 fun x => { x with reading := ⟨true, 62, 28, .ok, false⟩ }).validity 0 := by decide +kernel

theorem witness_ZoneDefined :
    (Profile.default.inRange ∧ Profile.default.consistent) ∧ setUp.zones.get 23 = none ∧ (setUp.zones.get 0).isSome = true ∧
    site.running = true ∧ (site.zones.get 0).isSome = true := by
  unfold Profile.inRange Profile.consistent Ladder.consistent; decide +kernel

theorem witness_ZoneEvaluated : site.zones.get 0 = some (someZone .none) ∧ (someZone .none).vent.evalTimer = some 10000 ∧
    ((site.zones.get 23).bind fun x => x.vent.evalTimer) = none := by decide +kernel

/-- The boundaries of R111 for CO 25 to 100: 400, 401, 1599 and 1600 sixteenths. -/
theorem witness_DemandFormulas : (400 ≤ 16 * Profile.default.co.low) ∧ 16 * Profile.default.co.low < 401 ∧
    1599 < 16 * Profile.default.co.high ∧ 16 * Profile.default.co.high ≤ 1600 := by decide

theorem witness_ProgrammeSet : setUp.part = .config ∧ (setUp.zones.get 0).isSome = true ∧
    site.zones.get 1 = some (someZone .blind) ∧ (someZone .blind).vent.overlay ≠ .none ∧
    site.zones.get 0 = some (someZone .none) ∧ (someZone .none).vent.overlay = .none ∧ site.running = true := by
  decide +kernel

/-- Begin Purge and End Purge in each overlay that the rules name. -/
theorem witness_Purges :
    site.zones.get 0 = some (someZone .none) ∧ (someZone .none).vent.overlay = .none ∧
    site.zones.get 1 = some (someZone .blind) ∧ (someZone .blind).vent.overlay = .blind ∧
    site.zones.get 2 = some (someZone (.purge .commanded)) ∧ (someZone (.purge .commanded)).vent.overlay = .purge .commanded ∧
    (someZone (.purge .commanded)).vent.durationTimer = some 60000 ∧ (someZone .none).vent.durationTimer = none ∧
    site.zones.get 3 = some (someZone (.purge .gas)) ∧ (someZone (.purge .gas)).vent.minPurgeTimer = some 600000 ∧
    (someZone .none).vent.minPurgeTimer = none ∧ site.running = true := by decide +kernel

theorem witness_FanAndGroupDefined :
    (List.finRange 24 : List ZoneId).length ≤ 24 ∧ (List.finRange 24 : List ZoneId).Nodup ∧
    ([0] : List ZoneId).Nodup ∧ (∀ z ∈ ([0] : List ZoneId), (setUp.zones.get z).isSome = true) ∧
    setUp.routed 1 = false := by decide +kernel

/-- A fan that may step, one that may not, and one with no ramp; and the cases of a step. -/
theorem witness_RampSteps :
    site.fans.get 0 = some (someFan [0]) ∧ (someFan [0]).ramp = some 2000 ∧ (someFan [0]).state = .running ∧
    (someFan [0]).command ≠ (someFan [0]).wanted ∧ site.supply.deferredFans.get 0 = none ∧
    site.limitActive = false ∧ (someFan [0]).nextStep ≠ (someFan [0]).command ∧
    (site.fans.get 1).isSome = true ∧ ((site.fans.get 1).map fun x => (x.state, x.ramp)) = some (.starting, some 2000) ∧
    (site.fans.get 2).bind Fan.ramp = none := by decide +kernel

/-- A fan whose start timer runs, one whose stop timer runs, one in FAULT that may be cleared, one not in FAULT. -/
theorem witness_FanFaults :
    ((site.fans.get 1).map fun x => x.startTimer) = some (some 30000) ∧
    (((site.updFan 0 fun x => { x with state := .stopping, stopTimer := some 60000 }).fans.get 0).map
      fun x => x.stopTimer) = some (some 60000) ∧
    (site.fans.get 0).bind Fan.startTimer = none ∧ (site.fans.get 0).bind Fan.stopTimer = none ∧
    ((site.fans.get 2).map fun x => (x.state, x.lastReport)) = some (.fault, none) ∧ site.fanStationLost 2 = false ∧
    ((site.fans.get 0).map fun x => (x.state, x.lastReport)) = some (.running, none) ∧ site.fanStationLost 0 = false := by
  decide +kernel

theorem witness_GroupForcedAndTimers :
    (site.groups.get 0).isSome = true ∧ (setUp.groups.get 0).isSome = true ∧
    (((site.updGroup 0 fun x => { x with presenceTimer := some 1 }).groups.get 0).map fun x => x.presenceTimer) =
      some (some 1) ∧
    (((site.updGroup 0 fun x => { x with movement := .fading, commanded := 90, fadeTimer := some 1 }).groups.get 0).map
      fun x => x.fadeTimer) = some (some 1) ∧
    (site.groups.get 63).bind Group.presenceTimer = none ∧ (site.groups.get 63).bind Group.fadeTimer = none ∧
    site.limitActive = false := by decide +kernel

/-- The site on a standby supply of `limit`: fans 0 and 1 at 28 each, group 0 (ROUTE) at 32, group 1 (FORCED) at 40. -/
def tight (limit : Nat) : State := { site with supply := { Supply.reset with mode := .standby, limit := limit } }

/-- What the passes of shedding find: members to shed in each case of wanted value and driver, and members that they
leave; a run that reaches its target and one that does not; and the bounds of the settings. -/
theorem witness_SupplySet :
    0 < 65536 ∧ 65535 < 65536 ∧ 100 ≤ 100 ∧
    (tight 8).committed = 128 ∧ (tight 8).supply.floor = 20 ∧
    ((tight 8).groups.get 0).map (fun x => (x.priority, x.commanded, x.wanted)) = some (4, 80, 80) ∧
    (tight 8).driverLost 0 = false ∧ ((tight 8).updStation 4 fun x => { x with state := .lost }).driverLost 0 = true ∧
    ((((tight 8).updGroup 0 fun x => { x with wanted := 20 }).groups.get 0).map (·.wanted)) = some 20 ∧
    ((((tight 8).updGroup 0 fun x => { x with wanted := 19 }).groups.get 0).map (·.wanted)) = some 19 ∧
    ((tight 8).groups.get 1).map Group.priority = some 2 ∧
    ((tight 8).fans.get 0).map (fun x => ((tight 8).fanClass x, x.minSpeed, x.command)) = some (3, 30, 50) ∧
    ((tight 8).fans.get 2).map (fun x => (tight 8).fanClass x) = some 1 ∧
    ((Ev.begin (tight 8)).shedTo 8).s.committed = 48 ∧ ((Ev.begin (tight 100)).shedTo 100).s.committed ≤ 100 := by
  decide +kernel

/-- The tight site with fan 0 and group 0 in the deferred set. -/
def waiting (limit : Nat) : State :=
  { tight limit with supply := { (tight limit).supply with
      deferredFans := put Supply.reset.deferredFans 0 (some 60), deferredGroups := put Supply.reset.deferredGroups 0 (some 100) } }

/-- Requests that fit and that do not, of class 1 and of class 3; members to be served, with headroom and without. -/
theorem witness_requests_and_service :
    ((tight 128).fans.get 0).map (fun x => (fanPower x.pRated 60, fanPower x.pRated x.command, (tight 128).fanClass x)) =
      some (48, 28, 3) ∧
    (tight 128).headroom = 0 ∧ (tight 148).headroom = 20 ∧
    ((tight 128).fans.get 2).map (fun x => (fanPower x.pRated 30, x.command, (tight 128).fanClass x)) = some (6, 0, 1) ∧
    (waiting 148).limitActive = true ∧ (0 : Int) < (waiting 148).headroom ∧ (waiting 128).headroom ≤ 0 ∧
    (0 : Int) ≤ (waiting 128).headroom ∧ site.limitActive = false ∧
    ((waiting 148).fans.get 0).isSome = true ∧ (waiting 148).supply.deferredFans.get 0 = some 60 ∧
    ((waiting 148).groups.get 0).isSome = true ∧ (waiting 148).supply.deferredGroups.get 0 = some 100 := by decide +kernel

/-- A grant that is whole, and one that is not: 8 of headroom for fan 12 of section 8.8. -/
theorem witness_GrantsFitTheHeadroom :
    let s : State := { State.reset with supply := { Supply.reset with mode := .standby, limit := 8 } }
    site.limitActive = false ∧ s.limitActive = true ∧
    (s.headroom < (fanPower 150 60 : Int) - fanPower 150 50) ∧ ((fanPower 150 56 : Int) - fanPower 150 50 ≤ s.headroom) ∧
    (s.headroom < (groupPower 40 80 : Int) - groupPower 40 20) := by decide +kernel

/-- Define Station of kind GAS on a free line address, and of kind NONE; Define Segment. -/
theorem witness_StationAndSegmentDefined :
    (defineStationRequest [7, 1, 1, 0, 63, 0] (Ev.begin setUp)).1 = .done [] ∧ u8 [7, 1, 1, 0, 63, 0] 0 = (6 : StationId).val + 1 ∧
    (defineStationRequest [1, 0, 0, 0, 1] (Ev.begin setUp)).1 = .done [] ∧ u8 [1, 0, 0, 0, 1] 0 = (0 : StationId).val + 1 ∧
    (∀ j : StationId, j ≠ 6 → (setUp.stations.get j).binding ≠ .none → (setUp.stations.get j).segment = 0 →
      (setUp.stations.get j).lineAddress ≠ 63) ∧
    (((List.finRange 96).filter fun j : StationId => j ≠ 6 ∧ (setUp.stations.get j).binding = .gas 0).length < 6) ∧
    setUp.underTest 6 = false ∧ (setUp.segments.get 0).testRunning = false := by decide +kernel

theorem witness_SegmentModeSet : (site.segments.get 0).mode = .run ∧ (site.segments.get 1).mode = .quiet ∧
    (site.setStation 6 { someStation (.gas 1) 7 with segment := 1 }).running = true ∧
    ((site.setStation 6 { someStation (.gas 1) 7 with segment := 1 }).stations.get 6).onSegment 1 = true ∧
    ((site.setStation 6 { someStation (.gas 1) 7 with segment := 1 }).stations.get 6).state ≠ .lost := by decide +kernel

/-- A record of a test that has sent one frame of two. -/
def someTest : TestRecord := ⟨0, .prbs, 2, 1, 0, 0, 0, .running⟩

/-- The set-up site with that test running on segment A, its reply window open. -/
def testing : State :=
  setUp.setSegment 0 { Segment.reset with
    testRunning := true, test := some someTest, exchange := some ⟨.test, 0, [2, 12, 40], some 8⟩ }

theorem witness_LoopTests :
    (setUp.stations.get 0).enabled = true ∧ (setUp.stations.get 0).segment = 0 ∧
    (setUp.segments.get 0).testRunning = false ∧ (List.replicate 16 (0 : Byte)).length = 16 ∧
    (testing.segments.get 0).testRunning = true ∧ (testing.segments.get 0).test = some someTest ∧
    (testing.segments.get 0).exchange = some ⟨.test, 0, [2, 12, 40], some 8⟩ ∧
    (let s := { site.setSegment 0 { Segment.reset with mode := .quiet } with part := .run }
     s.running = true ∧ (s.segments.get 0).mode = .quiet ∧ (s.segments.get 0).testRunning = false) := by decide +kernel

/-- The site with the exchange of kind `k` with entry `i` open on segment A. -/
def talking (k : ExchangeKind) (i : StationId) : State :=
  site.setSegment 0 { Segment.reset with mode := .run, exchange := some ⟨k, i, [], some 8⟩ }

/-- Good replies of a GAS, a LANE and a SIGN station, an acknowledged command, and a frame still being sent. -/
theorem witness_GoodReplyTaken :
    site.openExchange 0 = some (⟨.poll, 0, [], some 8⟩, 8) ∧ site.openExchange 1 = none ∧
    (⟨.poll, 0, [], some 8⟩ : Exchange).fault (.gas 0) [0, 62, 0, 28, 0] = none ∧
    (∀ y ∈ site.zones.get 0, min (u16 [0, 62, 0, 28, 0] 0) 500 < y.profile.co.peak ∧
      min (u16 [0, 62, 0, 28, 0] 2) 200 < y.profile.no2.peak) ∧
    (talking .poll 2).openExchange 0 = some (⟨.poll, 2, [], some 8⟩, 8) ∧
    (⟨.poll, 2, [], some 8⟩ : Exchange).fault ((site.stations.get 2).binding) [] = none ∧
    (⟨.poll, 2, [], some 8⟩ : Exchange).fault ((site.stations.get 2).binding) [1, 40, 0] = none ∧
    (⟨.poll, 5, [], some 8⟩ : Exchange).fault ((site.stations.get 5).binding) [1, 3] = none ∧
    (⟨.command, 5, [], some 8⟩ : Exchange).fault ((site.stations.get 5).binding) [] = none ∧
    (site.stations.get 5).binding = .sign 0 ∧ (site.stations.get 0).binding = .gas 0 ∧
    (⟨.command, 0, [], some 8⟩ : Exchange).fault (.gas 0) [] = none ∧
    ((site.setSegment 0 { Segment.reset with exchange := some ⟨.poll, 0, [], none⟩ }).segments.get 0).exchange =
      some ⟨.poll, 0, [], none⟩ := by decide +kernel

/-- A GAS reply at the peak level of CO, in a zone of each overlay. -/
theorem witness_GoodReplyTaken_peak :
    (⟨.poll, 0, [], some 8⟩ : Exchange).fault (.gas 0) [1, 0x90, 0, 5, 0] = none ∧ u8 [1, 0x90, 0, 5, 0] 4 = 0 ∧
    (∀ o : Overlay, (someZone o).profile.co.peak ≤ min (u16 [1, 0x90, 0, 5, 0] 0) 500 ∧ (someZone o).vent.overlay = o) ∧
    ∀ o : Overlay, ((site.setZone 0 (some (someZone o))).zones.get 0) = some (someZone o) ∧
      (site.setZone 0 (some (someZone o))).openExchange 0 = some (⟨.poll, 0, [], some 8⟩, 8) := by
  refine ⟨by decide +kernel, by decide +kernel, fun o => ⟨show Profile.default.co.peak ≤ _ by decide +kernel, rfl⟩,
    fun o => ⟨rfl, rfl⟩⟩

/-- A BAY reply: input 2 alone drives the primary input of position 2; position 1 is driven by no input. -/
theorem witness_GoodReplyTaken_bay :
    (⟨.poll, 1, [], some 8⟩ : Exchange).fault ((site.stations.get 1).binding) (List.replicate 16 1) = none ∧
    (site.stations.get 1).binding = .bay inputs0 ∧ inputs0.get 2 = some (spot 2) ∧
    site.inputBay (spot 2) = some (spot 2, false) ∧ site.stage (spot 2) = .slot (.bay splitBay) ∧
    (∀ k : Fin 16, ∀ c ∈ inputs0.get k, ∀ o ∈ site.inputBay c, o.2 = false → o.1.pos = 2 → k = 2) ∧
    ∀ k : Fin 16, ∀ c ∈ inputs0.get k, ∀ o ∈ site.inputBay c, o.1.pos ≠ 1 := by decide +kernel

/-- Replies of the FAN and the LIGHT station. -/
theorem witness_GoodReplyTaken_outputs :
    (⟨.poll, 3, [], some 8⟩ : Exchange).fault ((site.stations.get 3).binding) [2, 0, 0, 0] = none ∧
    (site.stations.get 3).binding = .fan (put (Vector.replicate 4 none) 0 (some 0)) ∧
    (∀ k : Fin 4, (put (Vector.replicate 4 (none : Option FanId)) 0 (some 0)).get k = some 0 → k = 0) ∧
    (site.fans.get 0).isSome = true ∧
    (⟨.poll, 4, [], some 8⟩ : Exchange).fault ((site.stations.get 4).binding) [255, 0] = none ∧
    (site.stations.get 4).binding = .light (put (Vector.replicate 8 none) 0 (some 0)) (Vector.replicate 8 none) := by
  decide +kernel

/-- Stations with 1, 2 and 3 misses. -/
theorem witness_MissedExchanges :
    (site.stations.get 0).state ≠ .lost ∧ (site.stations.get 0).misses < 2 ∧
    (((site.updStation 0 fun x => { x with misses := 2, state := .suspect }).stations.get 0).misses = 2) ∧
    (((site.updStation 0 fun x => { x with misses := 3, state := .lost }).stations.get 0).state = .lost) ∧
    (talking .probe 0).openExchange 0 = some (⟨.probe, 0, [], some 8⟩, 8) := by decide +kernel

theorem witness_StationTimers : (site.stations.get 0).staleTimer = some 30000 ∧ (site.stations.get 0).binding = .gas 0 ∧
    (site.stations.get 95).staleTimer = none ∧ (site.stations.get 0).probeTimer = none ∧
    ((site.updStation 0 fun x => { x with probeTimer := some 10000 }).stations.get 0).probeTimer = some 10000 := by
  decide +kernel

theorem witness_StartTaken : setUp.part = .config ∧ setUp.link.waiting = none ∧ firstFail setUp.startChecks = none ∧
    (setUp.zones.get 0).isSome = true ∧ (setUp.fans.get 1).isSome = true ∧ (setUp.groups.get 1).isSome = true ∧
    setUp.groupStation 1 = none := by decide +kernel

theorem witness_StopHoldAndRestart : site.link.waiting = none ∧ site.part ≠ .config ∧
    site.stage (spot 0) = .slot (.bay (someBay 0 (some 0) .free)) ∧
    (∀ k : RowKey, (site.rows.get k).table = (site.rows.get (spot 0).rowKey).table → k = (spot 0).rowKey) ∧
    site.stage (spot 5) = .slot .empty ∧ (testing.segments.get 0).test = some someTest ∧
    (site.segments.get 0).test = none ∧ (site.fans.get 0).isSome = true ∧ (site.groups.get 0).isSome = true ∧
    (site.zones.get 0).isSome = true := by decide +kernel

/-- A Stop SAFE with an output record still to be sent. -/
theorem witness_StopSafe :
    let s := site.updStation 3 fun x => { x with dirty := true }
    s.running = true ∧ s.link.waiting = none ∧ (s.stations.get 3).enabled = true ∧ (s.stations.get 3).dirty = true ∧
    (s.stations.get 3).state ≠ .lost ∧
    (match (s.stations.get 3).binding with
      | .fan _ => true
      | _ => false) = true := by decide +kernel

/-! The laws that every step keeps, and the clauses of a statement that one witness above leaves. -/

/-- A frame in flight with a notice pending; a kind enabled and one masked; and the order of an event's notices. -/
theorem witness_TransmitterOrder_notices :
    (sending none [⟨.started, 0, []⟩]).link.mask.getLsbD (NoticeKind.started.code - 1) = true ∧
    (site.setLink { site.link with mask := 0 }).link.mask.getLsbD (NoticeKind.stopped.code - 1) = false ∧
    (∃ m ∈ (sending none [⟨.started, 0, []⟩]).link.notices, m.kind = .started ∧ m.subject = 0) ∧
    (∀ m ∈ site.link.notices, ¬ (m.kind = .started ∧ m.subject = 0)) ∧
    (((Ev.begin site).raise .fanFault 3 [1]).raise .zoneAlarm 7 []).fresh = [⟨.zoneAlarm, 7, []⟩, ⟨.fanFault, 3, [1]⟩] ∧
    [(⟨.fanFault, 1, []⟩ : Notice), ⟨.fanFault, 3, [1]⟩, ⟨.started, 0, []⟩].Pairwise
      fun a b => a.kind.code < b.kind.code ∨ (a.kind = b.kind ∧ a.subject < b.subject) := by decide +kernel

/-- Lengths at the bounds, requests barred by the part state and by their own rules, a refusal for neither reason,
and a check that fails behind one that passes. -/
theorem witness_RefusedRequestChangesNothing_reasons :
    (∀ n ∈ [8, 16, 192], requestLengthOk 0x11 (List.replicate n 0) = true) ∧
    (∀ n ∈ [0, 7, 200], requestLengthOk 0x11 (List.replicate n 0) = false) ∧
    requestLengthOk 0x10 [0, 0] = false ∧ requestLengthOk 0x10 [8, 0, 0] = true ∧
    requestBarred 0x10 [8, 0, 0] site = false ∧
    (requestOf 0x10 [8, 0, 0] (Ev.begin site)).1 = .reject ⟨.range, 0, 8⟩ ∧
    requestBarred 0x30 [] site = true ∧ requestBarred 0x30 [] setUp = false ∧
    requestBarred 0x11 [1, 0, 0, 255, 0, 0, 0, 0] { site with part := .stopping } = true ∧
    requestBarred 0x15 [0, 0, 3, 0] site = true ∧ requestBarred 0x15 [0, 1, 3, 0] site = false ∧
    requestBarred 0x61 [0, 1, 0, 0, 1] site = true ∧ requestBarred 0x61 [1, 7, 0, 0, 1] site = false ∧
    (∀ k ∈ [0x10, 0x11, 0x15, 0x30, 0x61, 0x70], k ∈ requestCodes) ∧
    (let c : List (Bool × Rejection) := [(false, ⟨.range, 0, 8⟩), (true, ⟨.noObject, 1, 2⟩), (true, ⟨.busy, 2, 3⟩)]
     c = [(false, ⟨.range, 0, 8⟩)] ++ (true, ⟨.noObject, 1, 2⟩) :: [(true, ⟨.busy, 2, 3⟩)]) := by decide +kernel

theorem witness_RouteLaw : RouteLaw site := by
  have routes : ∀ i : RouteId, ∀ r ∈ site.routes.get i, r.groups.Nodup := by decide +kernel
  have holds : ∀ id : HoldId, ∀ h ∈ site.holds.get id, h.groups.Nodup := by decide +kernel
  have counts : ∀ g : GroupId, ∀ x ∈ site.groups.get g,
      x.routeCount = ((List.finRange 128).filter (site.holdLights g)).length := by decide +kernel
  exact ⟨fun i r h => routes i r h, fun i h k => holds i h k, fun g x h => counts g x h⟩

/-- The one row of the site that is bound, and its table. -/
theorem site_bound : ∀ k : RowKey, ∀ t ∈ (site.rows.get k).table, k = 0 ∧ t = 0 := by decide +kernel

theorem witness_BindingLaw : BindingLaw site := by
  have tables : ∀ t : TableId, t ≠ 0 → site.tables.get t = Vector.replicate 64 .empty := by decide +kernel
  refine ⟨fun j k t hj hk => (site_bound j t hj).1.trans (site_bound k t hk).1.symm, by decide +kernel,
    fun t h => tables t fun e => ?_⟩
  subst e
  exact h 0 (by decide +kernel)

/-- The law of the counts with no recount in flight, and with the site's one bound row scanned. -/
theorem witness_CountLaw : CountLaw site ∧ CountLaw { scanning 1 with shadow := site.live } := by
  have fresh : ∀ q : Fin 64, ∀ b ∈ site.bayAt (Addr.ofRow 0 q),
      b.counted = site.evalBay (Addr.ofRow 0 q) b ∧ b.shadow = b.counted := by decide +kernel
  have slots : ∀ q : Fin 64, site.bayAt (Addr.ofRow 0 q) = match (site.tables.get 0).get q with
      | .bay b => some b
      | _ => none := by decide +kernel
  have rests (k : RowKey) (t : TableId) (q : Fin 64) (b : Bay) (hk : (site.rows.get k).table = some t)
      (hb : (site.tables.get t).get q = .bay b) :
      b.counted = site.evalBay (Addr.ofRow k q) b ∧ b.shadow = b.counted := by
    obtain ⟨rfl, rfl⟩ := site_bound k t hk
    exact fresh q b (by rw [slots q, hb]; rfl)
  refine ⟨⟨by decide +kernel, fun _ k t q b hk hb => (rests k t q b hk hb).1, fun c n h => nomatch h⟩,
    ⟨by decide +kernel, fun h => (nomatch h), fun c n h => ?_⟩⟩
  obtain ⟨rfl, rfl⟩ : c = 1 ∧ n = 0 := by cases h; exact ⟨rfl, rfl⟩
  exact ⟨by decide +kernel, fun k t q b _ hk hb => (rests k t q b hk hb).2.trans (rests k t q b hk hb).1⟩

/-- The site's counts emptied, its hold kept: a list longer than the free count. -/
def overHeld : State := { site with live := State.reset.live }

/-- A bay counted open in the bucket of a hold; a fall and a rise of the free count; a list to be trimmed. -/
theorem witness_OccupancyChange_handover :
    HoldBooks site ∧ HoldBooks overHeld ∧ site.holdList 0 0 = [0] ∧ (someBay 0 (some 0) .free).counted = ⟨0, 0, true, .free⟩ ∧
    overHeld.holdList 0 0 = [0] ∧ overHeld.freeCount 0 0 = 0 ∧ overHeld.freeCount 0 0 < site.freeCount 0 0 ∧
    (let t := ((Ev.begin overHeld).handover site ⟨0, 0, true, .free⟩ ⟨0, 0, true, .occupied⟩ true).s
     t.holdList 0 0 = []) ∧
    (let t := ((Ev.begin site).handover overHeld ⟨0, 0, true, .occupied⟩ ⟨0, 0, true, .free⟩ false).s
     overHeld.netFree 0 0 < t.netFree 0 0) ∧ ((0, 1) : ZoneId × Bucket) ≠ (0, 0) := by
  unfold HoldBooks; decide +kernel

theorem witness_release : site.holds.get 127 = none ∧ site.holds.get 0 = some ⟨0, 0, 0, 0, [0], 180000⟩ ∧
    (site.lanes.get 0).headHolds 0 = true := by decide +kernel

/-- Fan 0's step and group 0's fade change the command and the level that stations 3 and 4 carry. -/
theorem witness_records_left_dirty :
    site.fanStation 0 = some (3, 0) ∧ site.groupStation 0 = some 4 ∧ (site.fans.get 0).map Fan.command = some 50 ∧
    after (exec (.rampTimerExpiry 0) site) (fun t => (t.part, (t.fans.get 0).map Fan.command)) = some (.run, some 55) ∧
    (let s := site.updGroup 0 fun x => { x with commanded := 90, movement := .fading, fadeTimer := some 1 }
     s.groupStation 0 = some 4 ∧ (s.groups.get 0).map Group.commanded = some 90 ∧
     after (exec (.fadeTimerExpiry 0) s) (fun t => (t.part, (t.groups.get 0).map Group.commanded)) =
       some (.run, some 85)) := by decide +kernel

/-- The set-up site on a standby supply of 8 whose base load alone is 9. -/
def overBase : State := { setUp with supply := { Supply.reset with mode := .standby, limit := 8, base := 9, overLimit := true } }

theorem witness_SupplyLaw : SupplyLaw site ∧ SupplyLaw overBase := by
  have fans : ∀ f : FanId, ∀ x ∈ overBase.fans.get f, x.command = 0 := by decide +kernel
  have groups : ∀ g : GroupId, ∀ x ∈ overBase.groups.get g, x.commanded = 0 := by decide +kernel
  exact ⟨⟨by decide +kernel, fun h => absurd h (by decide +kernel)⟩, by decide +kernel,
    fun _ => ⟨fun f x h _ => fans f x h, fun g x h _ => (groups g x h).trans_le (Nat.zero_le _)⟩⟩

theorem witness_PlantLaw : PlantLaw site ∧ PlantLaw (waiting 148) := by
  have fans (s : State) (h : s = site ∨ s = waiting 148) : ∀ f : FanId, ∀ x ∈ s.fans.get f,
      (x.state = .stopped ∨ x.state = .stopping ∨ x.state = .fault → x.command = 0) ∧
      ((s.supply.deferredFans.get f).isSome = true → x.outOfService = false) := by
    rcases h with rfl | rfl <;> decide +kernel
  have groups (s : State) (h : s = site ∨ s = waiting 148) : ∀ g : GroupId, ∀ x ∈ s.groups.get g, x.fadeTimer = none := by
    rcases h with rfl | rfl <;> decide +kernel
  have law (s : State) (h : s = site ∨ s = waiting 148) : PlantLaw s :=
    ⟨fun f x k => fans s h f x k, fun g x k r => absurd r (by simp [groups s h g x k])⟩
  exact ⟨law _ (.inl rfl), law _ (.inr rfl)⟩

/-- ENTRY lanes with an ASSIGNED head, a WAITING head, a full queue and none; an EXIT lane; a lane of neither; a
lane event of a new number, and one whose number is kept. -/
theorem witness_GoodReplyTaken_lane :
    (site.lanes.get 0).queue = [⟨0, 0, .assigned 0 0 0⟩, ⟨1, 1, .waiting⟩] ∧ (site.lanes.get 0).direction = .entry ∧
    (queueing.lanes.get 2).queue = [⟨0, 0, .waiting⟩] ∧ (queueing.lanes.get 2).direction = .entry ∧
    (site.lanes.get 2).queue = [] ∧ 4 ≤ (List.replicate 4 (⟨0, 0, .waiting⟩ : Arrival)).length ∧
    (site.lanes.get 1).direction = .exit ∧ (site.lanes.get 1).movement.Nodup ∧ (site.lanes.get 7).direction = .none ∧
    (site.stations.get 2).binding = .lane 0 ∧ (site.stations.get 2).lastEvent ≠ some (([1, 40, 0] : List Byte).getD 1 0) ∧
    ((site.updStation 2 fun x => { x with lastEvent := some 40 }).stations.get 2).lastEvent =
      some (([1, 40, 0] : List Byte).getD 1 0) := by decide +kernel

/-- What a loss finds: an input of a BAY station and a place that none drives, a fan in service, one in FAULT and
one that the station does not bind, and a missed command to a panel. -/
theorem witness_MissedExchanges_owners :
    inputs0.get 2 = some (spot 2) ∧ site.inputBay (spot 2) = some (spot 2, false) ∧
    site.stage (spot 2) = .slot (.bay splitBay) ∧
    (∀ k : Fin 16, ∀ c ∈ inputs0.get k, ∀ o ∈ site.inputBay c, o.1.pos ≠ 1) ∧
    (let channels := put (put (Vector.replicate 4 (none : Option FanId)) 0 (some 0)) 1 (some 2)
     channels.get 0 = some 0 ∧ channels.get 1 = some 2 ∧ (∀ c, channels.get c ≠ some 1) ∧
     (site.fans.get 0).map Fan.state = some .running ∧ (site.fans.get 2).map Fan.state = some .fault) ∧
    (site.lanes.get 0).direction = .entry ∧
    (talking .command 5).openExchange 0 = some (⟨.command, 5, [], some 8⟩, 8) ∧ (site.stations.get 5).binding = .sign 0 := by
  decide +kernel

/-- The site with segment A in RUN and between exchanges, after `polls` ordinary polls, the last one of number `pos`. -/
def between (pos polls : Nat) (round : Option Nat) : State :=
  site.setSegment 0 { Segment.reset with mode := .run, pollPos := pos, pollCount := polls, round := round }

/-- Entry `i` of `s` LOST. -/
def losing (s : State) (i : StationId) : State := s.updStation i fun x => { x with state := .lost }

/-- Entry `i` is an ordinary station of segment A, or one of its lane list, and not LOST (R174). -/
abbrev polls (s : State) (lanes : Bool) (i : StationId) : Prop :=
  (s.stations.get i).onSegment 0 = true ∧ (s.stations.get i).binding.isLane = lanes ∧ (s.stations.get i).state ≠ .lost

/-- Segment A between exchanges with only its LANE station still answering. -/
def lanesOnly (round : Option Nat) : State := [0, 1, 3, 4, 5].foldl losing (between 6 1 round)

/-- Commands: a segment that chooses none, one with a dirty record, and one with nothing to send and a probe due. -/
theorem witness_StationTimers_commands :
    (site.segments.get 1).mode ≠ .run ∧ (site.segments.get 0).exchange.isSome = true ∧
    (let s := (between 0 0 none).updStation 3 fun x => { x with dirty := true }
     (s.segments.get 0).mode = .run ∧ (s.segments.get 0).exchange = none ∧
     FirstAfter (fun i => (s.stations.get i).onSegment 0 = true ∧ s.eligible (s.stations.get i) = true)
       (s.segments.get 0).lastCommanded 3) ∧
    (let s := losing ((between 0 0 none).updStation 4 fun x => { x with probeDue := true }) 4
     (∀ i : StationId, ¬ ((s.stations.get i).onSegment 0 = true ∧ s.eligible (s.stations.get i) = true)) ∧
     Lowest (fun i => (s.stations.get i).onSegment 0 = true ∧ (s.stations.get i).probeDue = true) 4) := by
  simp only [FirstAfter, Lowest]; decide +kernel

/-- No probe due; a lane round in progress, beginning after 4 polls or without an ordinary station, and at its end. -/
theorem witness_StationTimers_lane_round :
    (∀ i : StationId, (site.stations.get i).probeDue = false) ∧
    Lowest (fun i => polls (between 1 4 (some 2)) true i ∧ 2 < stationNumber i) 2 ∧
    4 ≤ ((between 1 4 none).segments.get 0).pollCount ∧ Lowest (polls (between 1 4 none) true) 2 ∧
    Lowest (polls (lanesOnly none) true) 2 ∧ (∀ j, ¬ polls (lanesOnly none) false j) ∧
    (∀ j, polls (lanesOnly (some 3)) true j → stationNumber j ≤ 3) ∧ ∀ j, ¬ polls (lanesOnly (some 3)) false j := by
  simp only [Lowest]; decide +kernel

/-- Ordinary polls with and without a wrap, and no station at all. -/
theorem witness_StationTimers_ordinary :
    FirstAfter (polls (between 2 1 none) false) 2 3 ∧ FirstAfter (polls (between 6 4 (some 3)) false) 6 0 ∧
    (∀ j, polls (between 6 4 (some 3)) true j → stationNumber j ≤ 3) ∧
    (∀ j, ¬ polls (losing (lanesOnly none) 2) true j) ∧ ∀ j, ¬ polls (losing (lanesOnly none) 2) false j := by
  simp only [FirstAfter]; decide +kernel

/-- What the next exchange finds: a panel ready for an update, and a LANE station that is the round's last or not. -/
theorem witness_StationTimers_sent :
    (let s := site.updPanel 0 fun x => { x with lastReport := .ready 2, inFlight := none, holdOff := none }
     s.eligible (s.stations.get 5) = true ∧ (s.stations.get 5).binding = .sign 0 ∧
     (s.panels.get 0).wanted = some .countFull ∧ (s.panels.get 0).lastReport = .ready 2) ∧
    (site.stations.get 2).onSegment 0 = true ∧ (site.stations.get 2).binding = .lane 0 ∧ (site.stations.get 2).state ≠ .lost ∧
    (∀ j : StationId, (site.stations.get j).onSegment 0 = true → (site.stations.get j).binding.isLane = true →
      (site.stations.get j).state ≠ .lost → j ≤ 2) ∧
    (let s := site.setStation 6 (someStation (.lane 2) 7)
     ¬ ∀ j : StationId, (s.stations.get j).onSegment 0 = true → (s.stations.get j).binding.isLane = true →
      (s.stations.get j).state ≠ .lost → j ≤ 2) := by decide +kernel

/-- The judgements of the entry to RUN and of a Stop SAFE, with their conditions fulfilled and not. -/
theorem witness_StopSafe_judgements :
    let starting := { site with part := .starting }
    let settled : State := { (site.updFan 0 fun x => { x with wanted := 50 }).updFan 1 fun x => { x with wanted := 50 } with
      part := .stopping }
    (Ev.begin starting).markRun.judgeRun = true ∧ starting.runReady = true ∧
    ({ scanning 0 with part := .starting } : State).runReady = false ∧
    settled.stopReady = true ∧ ({ site with part := .stopping } : State).stopReady = false ∧
    ({ Ev.begin settled with judgeStop := true } : Ev).judgeStop = true := by decide +kernel

/-- The law of the pending moves in RUN, in a STARTING with a recount, and in a STOPPING; and an entry to RUN. -/
theorem witness_PartStateMoves :
    ReadyLaw site ∧ ReadyLaw { scanning 255 with part := .starting } ∧ ReadyLaw { site with part := .stopping } ∧
    after (exec .recountRowStep { scanning 255 with part := .starting }) State.part = some .run := by
  unfold ReadyLaw; decide +kernel

/-- The site with a test running on its quiet segment B. -/
def siteTesting : State :=
  site.setSegment 1 { Segment.reset with
    mode := .quiet, testRunning := true, test := some someTest, exchange := some ⟨.test, 0, [2, 12, 40], some 8⟩ }

/-- Every kind of notice is enabled on the site, and the event of a Close Zone tells the new state of its zone. -/
theorem witness_Told :
    (∀ k ∈ [NoticeKind.zoneAlarm, .zoneState, .stationState, .fanFault, .lampFault, .recountDone, .testDone],
      site.link.mask.getLsbD (k.code - 1) = true) ∧ site.part ≠ .config ∧
    after (exec (.closeZone 1 [0]) site) (fun t => (t.part, (t.zones.get 0).map Zone.guidance, t.link.notices)) =
      some (.run, some .closed, [⟨.zoneState, 0, [2, 1]⟩]) ∧ (someZone .none).guidance ≠ .closed ∧
    after (exec (.openZone 1 [0]) (site.setZone 0 (some { someZone .none with causes := ⟨true, false, false⟩ })))
      (fun t => (t.zones.get 0).map Zone.guidance) = some (some .opened) := by decide +kernel

/-- An evaluation whose alarm begins a GAS purge, and one that ends a GAS purge that has run out. -/
theorem witness_ZoneEvaluated_alarms :
    (let x := { someZone .none with air := ⟨true, 8000, 8000, 0, 0, false, false, false, true⟩ }
     (x.evaluated true 0 0 0 10000).air.alarm = true ∧ x.vent.overlay ≠ .purge .gas) ∧
    (let z := someZone (.purge .gas)
     let x := { z with
       air := ⟨true, 0, 0, 0, 0, false, false, true, true⟩, vent := { z.vent with runOut := true, minPurgeTimer := none } }
     (x.evaluated true 0 0 0 10000).air.alarm = false ∧ (x.evaluated true 0 0 0 10000).air.clear = true ∧
     x.vent.overlay = .purge .gas ∧ x.vent.runOut = true) := by decide +kernel

/-- A test running on a segment of a part in RUN, for Set Segment Mode and Stop SAFE; and none on the other. -/
theorem witness_tests_aborted :
    siteTesting.running = true ∧ (siteTesting.segments.get 1).mode = .quiet ∧
    (siteTesting.segments.get 1).testRunning = true ∧ (siteTesting.segments.get 1).test = some someTest ∧
    (siteTesting.segments.get 0).test = none := by decide +kernel

/-- Replies that do not fit their kind by length and by value, at the bounds of what fits. -/
theorem witness_GoodReplyTaken_misfits :
    site.openExchange 0 = some (⟨.poll, 0, [], some 8⟩, 8) ∧
    (∀ n ∈ [0, 4, 6], (⟨.poll, 0, [], some 8⟩ : Exchange).fault (.gas 0) (List.replicate n 0) = some .length) ∧
    (⟨.command, 3, [], some 8⟩ : Exchange).fault ((site.stations.get 3).binding) [0] = some .length ∧
    (⟨.probe, 1, [], some 8⟩ : Exchange).fault (.bay inputs0) (List.replicate 16 3) = none ∧
    (⟨.probe, 1, [], some 8⟩ : Exchange).fault (.bay inputs0) (List.replicate 16 4) = some .check ∧
    (⟨.poll, 2, [], some 8⟩ : Exchange).fault (.lane 0) [0, 40, 0] = some .check ∧
    (⟨.poll, 2, [], some 8⟩ : Exchange).fault (.lane 0) [3, 40, 255] = none ∧
    (⟨.poll, 3, [], some 8⟩ : Exchange).fault ((site.stations.get 3).binding) [3, 0, 0, 0] = some .check ∧
    (⟨.poll, 5, [], some 8⟩ : Exchange).fault (.sign 0) [2, 0] = some .check := by decide +kernel

/-- What the notices of a good reply tell: a station that was LOST, a fan that reports STOPPED in RUNNING, a fan that
trips, and a group whose count of failed lamps changes. -/
theorem witness_GoodReplyTaken_notices :
    ((site.updStation 0 fun x => { x with state := .lost }).stations.get 0).state = .lost ∧
    (site.stations.get 3).binding = .fan (put (Vector.replicate 4 none) 0 (some 0)) ∧
    (site.fans.get 0).map (fun y => (y.state, y.reason)) = some (.running, .none) ∧
    u8 [0, 0, 0, 0] (0 : Fin 4).val = 0 ∧ u8 [2, 0, 0, 0] (0 : Fin 4).val = 2 ∧
    (put (Vector.replicate 8 (none : Option GroupId)) 0 (some 0)).get 0 = some 0 ∧
    (([1, 0] : List Byte).getD 0 0).getLsbD 0 = true ∧ (site.groups.get 0).map Group.failedCount = some 0 ∧
    after (exec (.fieldGoodReply 0 [1, 0]) (talking .poll 4)) (fun t => t.link.tx) =
      some (some ⟨0x90, 0, [5, 0, 0, 1, 0]⟩) := by decide +kernel

/-- The site with fan 2 back in service, so that no zone is UNVENTILATED, on a standby supply of `limit`: 156 is
committed. -/
def aired (limit : Nat) : State :=
  { site.setFan 2 (some (someFan [2, 3])) with supply := { Supply.reset with mode := .standby, limit := limit } }

theorem witness_VentilatedLaw : ∀ limit, VentilatedLaw (aired limit) := by
  have h (limit : Nat) : ∀ z : ZoneId, ∀ x ∈ (aired limit).zones.get z, x.causes.unventilated = false := by
    show ∀ z : ZoneId, ∀ x ∈ site.zones.get z, x.causes.unventilated = false
    decide +kernel
  have k (limit : Nat) : ∀ z : ZoneId, ((aired limit).zones.get z).isSome = true → (aired limit).unventilated z = false := by
    show ∀ z : ZoneId, (site.zones.get z).isSome = true → (aired 0).unventilated z = false
    decide +kernel
  exact fun limit _ z x hx => by rw [h limit z x hx, k limit z (by simp [hx])]

theorem witness_GroupLaw : GroupLaw (aired 156) ∧ GroupLaw setUp := by
  have run : ∀ g : GroupId, ∀ x ∈ (aired 156).groups.get g,
      x.state = (aired 156).lightState x ∧ x.wanted = (aired 156).lightLevel x := by
    unfold State.lightState State.lightLevel; decide +kernel
  have config : ∀ g : GroupId, ∀ x ∈ setUp.groups.get g, x.state = .base ∧ x.wanted = 0 := by decide +kernel
  exact ⟨fun g x hx => (if_neg (by decide +kernel)).mpr (run g x hx), fun g x hx => (if_pos rfl).mpr (config g x hx)⟩

/-- Every fan's ramp is TIMING: none is due a step of its own. -/
theorem witness_RampSteps_others (limit : Nat) : ∀ f : FanId, ∀ x ∈ (aired limit).fans.get f, x.ramp = some 2000 := by
  show ∀ f : FanId, ∀ x ∈ (aired 0).fans.get f, x.ramp = some 2000
  decide +kernel

/-- The aired site on a limit of 160 with fan 0 above its wanted speed. -/
def airedDown : State := (aired 160).updFan 0 fun x => { x with wanted := 40 }

/-- Fans due a step under an active limit: of class 3 and of class 1, up, and down. -/
theorem witness_RampSteps_limited :
    (aired 160).limitActive = true ∧ (aired 156).limitActive = true ∧
    ((aired 160).fans.get 0).map (fun x => (x.command, x.wanted, (aired 160).fanClass x)) = some (50, 60, 3) ∧
    ((aired 156).fans.get 2).map (fun x => (x.command, x.wanted, (aired 156).fanClass x)) = some (50, 60, 1) ∧
    (airedDown.fans.get 0).map (fun x => (x.command, x.wanted, airedDown.fanClass x)) = some (50, 40, 3) ∧
    (aired 160).supply.deferredFans.get 0 = none ∧ (aired 156).supply.deferredFans.get 2 = none ∧
    airedDown.supply.deferredFans.get 0 = none := by decide +kernel

/-- The command and the ramp that an expiry of fan `f`'s ramp timer leaves, in an event that leaves RUN. -/
def stepped (f : FanId) (s : State) : Option (Nat × Option Nat) :=
  (after (exec (.rampTimerExpiry f) s) fun t => if t.part = .run then t.fans.get f else none).join.map fun y =>
    (y.command, y.ramp)

/-- R131, R158, R159: a step to 55 that 4 of headroom hold to 52; one of a class 1 fan, in full after it has shed; and
one down to 45. Each ramp is TIMING again for 2 s. -/
theorem test_ramp_steps_under_a_limit : stepped 0 (aired 160) = some (52, some 4000) ∧
    stepped 2 (aired 156) = some (55, some 4000) ∧ stepped 0 airedDown = some (45, some 4000) := by decide +kernel

/-- Group 0, with a route through it, forced by command, or in PRESENCE: what Force Group off and the presence
expiry leave. -/
theorem witness_GroupForcedAndTimers_derived :
    (aired 500).part ≠ .config ∧
    after (exec (.forceGroup 1 [0, 0]) ((aired 500).updGroup 0 fun x => { x with forcedCmd := true, state := .forced, wanted := 100 }))
      (fun t => (t.part, (t.groups.get 0).map fun y => (y.state, y.wanted))) = some (.run, some (.route, 80)) ∧
    after (exec (.presenceTimerExpiry 0)
        ((aired 500).updGroup 0 fun x => { x with presenceTimer := some 1, state := .presence, wanted := 100 }))
      (fun t => (t.part, (t.groups.get 0).map fun y => (y.state, y.wanted))) = some (.run, some (.route, 80)) := by
  decide +kernel

/-- A BASE group that waits for a level below the standby floor: it is not raised, and service ends there (R158
step 2, R161). -/
theorem test_service_keeps_the_floor :
    let s : State := (aired 500).updGroup 0 fun x => { x with state := .base, commanded := 10 }
    let t : State := { s with supply := { s.supply with
      floor := 20, deferredGroups := put Supply.reset.deferredGroups 0 (some 15) } }
    (((Ev.begin t).serve.s.groups.get 0).map Group.commanded = some 10) ∧
    (((Ev.begin { t with supply := { t.supply with floor := 15 } }).serve.s.groups.get 0).map Group.commanded = some 15) := by
  decide +kernel

/-- The valid heads of a zone counted: one of the site's, and none (R93). -/
theorem witness_AirTests_count : site.validity 0 = 0 ∧
    (site.updStation 0 fun x => { x with reading := ⟨true, 62, 28, .ok, false⟩ }).validity 0 = 1 := by decide +kernel

theorem witness_LoadSlotsInConfig_kinds :
    BindingLaw (aimed 4) ∧
    (aimed 0).stage (spot 0) = .slot (.bay ((setUp.bayAt (spot 0)).getD bareBay)) ∧
    (aimed 3).stage (spot 3) = .slot (.aliasTo (spot 2)) ∧
    (aimed 3).stage (spot 2) = .slot (.bay ((setUp.bayAt (spot 2)).getD bareBay)) ∧
    (aimed 3).stage (spot 0) = .slot (.bay ((setUp.bayAt (spot 0)).getD bareBay)) ∧
    ((setUp.bayAt (spot 0)).getD bareBay).aliasIn = 0 ∧ (aimed 3).boundInput (spot 3) = false ∧
    (aimed 4).stage (spot 4) = .slot (.bay ((setUp.bayAt (spot 4)).getD splitBay)) ∧
    ((setUp.bayAt (spot 4)).getD splitBay).aliasIn = 0 ∧ (aimed 4).boundInput (spot 4) = false ∧
    (aimed 4).stage (spot 0) = .slot (.bay ((setUp.bayAt (spot 0)).getD bareBay)) := by
  have bound : ∀ k : RowKey, ∀ t ∈ ((aimed 4).rows.get k).table, k = 0 ∧ t = 0 := by decide +kernel
  have tables : ∀ t : TableId, t ≠ 0 → (aimed 4).tables.get t = Vector.replicate 64 .empty := by decide +kernel
  refine ⟨⟨fun j k t hj hk => (bound j t hj).1.trans (bound k t hk).1.symm, by decide +kernel,
    fun t h => tables t fun e => ?_⟩, by decide +kernel⟩
  subst e
  exact h 0 (by decide +kernel)

/-- Bindings of each kind that station 6 of the set-up site may take. -/
def spareInputs : Vector (Option Addr) 16 := put (put (Vector.replicate 16 none) 0 (some (spot 9))) 15 (some ⟨7, 31, 63⟩)

def spareFans : Vector (Option FanId) 4 := put (put (Vector.replicate 4 none) 0 (some 5)) 3 (some 31)

def spareGroups : Vector (Option GroupId) 8 := put (put (Vector.replicate 8 none) 0 (some 5)) 7 (some 63)

def spareMotion : Vector (Option GroupId) 8 := Vector.ofFn fun i => if i.val < 4 then some 63 else none

/-- A station other than 6 of the set-up site is one of the first six, or binds nothing. -/
theorem setUp_binding {j : StationId} {b : Binding} (hb : (setUp.stations.get j).binding = b) :
    b ∈ [.gas 0, .bay inputs0, .lane 0, .fan (put (Vector.replicate 4 none) 0 (some 0)),
      .light (put (Vector.replicate 8 none) 0 (some 0)) (Vector.replicate 8 none), .sign 0, .none] := by
  have h : ∀ j : StationId, (setUp.stations.get j).binding ∈ [.gas 0, .bay inputs0, .lane 0,
      .fan (put (Vector.replicate 4 none) 0 (some 0)),
      .light (put (Vector.replicate 8 none) 0 (some 0)) (Vector.replicate 8 none), .sign 0, .none] := by decide +kernel
  exact hb ▸ h j

theorem witness_StationAndSegmentDefined_kinds :
    setUp.mayBind 6 .none ∧ setUp.mayBind 6 (.gas 0) ∧ setUp.mayBind 6 (.bay spareInputs) ∧ setUp.mayBind 6 (.lane 7) ∧
    setUp.mayBind 6 (.fan spareFans) ∧ setUp.mayBind 6 (.light spareGroups spareMotion) ∧ setUp.mayBind 6 (.sign 31) := by
  refine ⟨trivial, by unfold State.mayBind; decide +kernel, ⟨by decide +kernel, ?_⟩, ?_, ⟨by decide +kernel, ?_⟩,
    ⟨?_, by decide +kernel⟩, ?_⟩
  · rintro j others ⟨-, h⟩ x y a hx hy
    have e : others = inputs0 := by simpa using setUp_binding h
    have k : ∀ x y, spareInputs.get x = none ∨ inputs0.get y ≠ spareInputs.get x := by decide +kernel
    rcases k x y with k | k
    · simp [hx] at k
    · exact k (by rw [hx, ← e, hy])
  · rintro j ⟨-, h⟩
    have := setUp_binding h
    revert this; decide +kernel
  · rintro j others ⟨-, h⟩ x y f hx hy
    have e : others = put (Vector.replicate 4 none) 0 (some 0) := by simpa using setUp_binding h
    have k : ∀ x y, spareFans.get x = none ∨
        (put (Vector.replicate 4 (none : Option FanId)) 0 (some 0)).get y ≠ spareFans.get x := by decide +kernel
    rcases k x y with k | k
    · simp [hx] at k
    · exact k (by rw [hx, ← e, hy])
  · rintro j c m ⟨-, h⟩ g hg hn
    have e : c = put (Vector.replicate 8 none) 0 (some 0) ∧ m = Vector.replicate 8 none := by simpa using setUp_binding h
    have k : ∀ g, LightNames spareGroups spareMotion g →
        ¬ LightNames (put (Vector.replicate 8 none) 0 (some 0)) (Vector.replicate 8 none) g := by
      unfold LightNames; decide +kernel
    exact k g hg (e.1 ▸ e.2 ▸ hn)
  · rintro j ⟨-, h⟩
    have := setUp_binding h
    revert this; decide +kernel

/-- The law of commands on the site, whose fans are in RUNNING, STARTING and FAULT, and with a fan deferred. -/
theorem witness_SpeedLaw : SpeedLaw site ∧ SpeedLaw (waiting 148) := by
  have fans (s : State) (h : s = site ∨ s = waiting 148) : ∀ f : FanId, ∀ x ∈ s.fans.get f,
      (x.command = 0 ∨ x.minSpeed ≤ x.command) ∧ x.command ≤ 100 ∧
      (x.state = .fault → x.command = 0 ∧ s.supply.deferredFans.get f = none) ∧
      ∀ v ∈ s.supply.deferredFans.get f, x.minSpeed ≤ v ∧ v ≤ 100 := by
    rcases h with rfl | rfl <;> decide +kernel
  have law (s : State) (h : s = site ∨ s = waiting 148) : SpeedLaw s :=
    ⟨fun f x k => fans s h f x k, fun c => absurd c (by rcases h with rfl | rfl <;> decide +kernel)⟩
  exact ⟨law _ (.inl rfl), law _ (.inr rfl)⟩

/-- The site's slots all stand in row 0.0. -/
theorem site_slot {a : Addr} {x : Slot} (h : site.stage a = .slot x) : a = spot a.pos := by
  unfold State.stage at h
  split at h
  · cases k : (site.rows.get a.rowKey).table with
    | none => simp [k] at h
    | some t =>
      obtain ⟨l, r, p⟩ := a
      have e := congrArg Fin.val (site_bound _ t k).1
      simp only [Addr.rowKey, Fin.val_zero] at e
      obtain ⟨rfl, rfl⟩ : l = 0 ∧ r = 0 := ⟨Fin.ext (by simp; omega), Fin.ext (by simp; omega)⟩
      rfl
  · cases h

/-- The law of the map on the site, whose position 3 is an alias of position 2. -/
theorem witness_MapLaw : MapLaw site ∧ site.stage (spot 3) = .slot (.aliasTo (spot 2)) := by
  have slots : ∀ p : Fin 64, (match site.stage (spot p) with
      | .slot (.aliasTo t) => decide (p = 3 ∧ t = spot 2)
      | .slot (.bay b) => decide (b.aliasIn = 1 ↔ p = 2)
      | _ => true) = true := by decide +kernel
  have target : ∃ b, site.stage (spot 2) = .slot (.bay b) := ⟨splitBay, by decide +kernel⟩
  have alias3 : site.stage (spot 3) = .slot (.aliasTo (spot 2)) := by decide +kernel
  have only (a t : Addr) (h : site.stage a = .slot (.aliasTo t)) : a = spot 3 ∧ t = spot 2 := by
    have e := site_slot h
    have k := slots a.pos
    rw [← e, h] at k
    exact ⟨e.trans (congrArg spot (of_decide_eq_true k).1), (of_decide_eq_true k).2⟩
  refine ⟨⟨fun a t h => (only a t h).2 ▸ target, fun a c t h k => (only a t h).1.trans (only c t k).1.symm,
    fun t b h => ?_, ?_⟩, alias3⟩
  · have e := site_slot h
    have k := slots t.pos
    rw [← e, h] at k
    refine (of_decide_eq_true k).trans ⟨fun p => ⟨spot 3, ?_⟩, fun ⟨a, ha⟩ => ?_⟩
    · rw [e, p]; exact alias3
    · rw [(only a t ha).2]; rfl
  · have one : ∀ i : StationId, (match (site.stations.get i).binding with
        | .bay inputs => decide (i = 1 ∧ inputs = inputs0)
        | _ => true) = true := by decide +kernel
    have apart : ∀ x y : Fin 16, inputs0.get x = inputs0.get y → (inputs0.get x).isSome = true → x = y := by decide +kernel
    intro i j inputs others x y a hi hx hj hy
    have ki := one i
    have kj := one j
    rw [hi] at ki
    rw [hj] at kj
    obtain ⟨rfl, rfl⟩ := of_decide_eq_true ki
    obtain ⟨rfl, rfl⟩ := of_decide_eq_true kj
    exact ⟨rfl, apart x y (hx.trans hy.symm) (by rw [hx]; rfl)⟩

/-- An enabled BAY entry whose inputs are at bays, a slot that is none of theirs, and an alias that is not bound. -/
theorem witness_bindInputs : BindingLaw site ∧ (site.stations.get 1).enabled = true ∧
    (site.stations.get 1).binding = .bay inputs0 ∧ some (spot 2) ∈ inputs0.toList ∧ some (spot 3) ∉ inputs0.toList ∧
    site.stage (spot 3) = .slot (.aliasTo (spot 2)) ∧ site.stage (spot 1) = .slot (.bay (someBay 0 none .occupied)) ∧
    site.stage (spot 9) = .slot .empty :=
  ⟨witness_BindingLaw, by decide +kernel⟩

/-- R29: an input at a bay, at an alias, and at neither. -/
theorem test_inputBay : site.inputBay (spot 2) = some (spot 2, false) ∧ site.inputBay (spot 3) = some (spot 2, true) ∧
    site.inputBay (spot 9) = none ∧ site.inputBay ⟨7, 31, 63⟩ = none := by decide +kernel

/-- R119: the blind test of a zone in each overlay, with and without a valid head. -/
theorem test_blind_test :
    let v (o : Overlay) (pending : Bool) : Vent := { (Vent.reset Profile.default) with overlay := o, blindPending := pending }
    (v .none false).blindTest 0 = v .blind false ∧ (v .none false).blindTest 1 = v .none false ∧
    (v .blind false).blindTest 0 = v .blind false ∧ (v .blind false).blindTest 1 = v .none false ∧
    (v (.purge .gas) false).blindTest 0 = v (.purge .gas) true ∧
    (v (.purge .gas) true).blindTest 1 = v (.purge .gas) false := by decide +kernel

/-- What the reports of R73, R179 and R80 suppose: lists no longer than their places. -/
theorem witness_short_lists :
    ∃ h : Hold, site.holds.get 0 = some h ∧ h.groups.length ≤ 8 ∧
      (⟨0, .check, [1, 2, 3, 4]⟩ : Capture).bytes.length ≤ 4 ∧ [ArrowEntry.full, .closed, .arrow .left, .full].length ≤ 4 ∧
      HoldBooks site ∧ (30 : Nat) ≠ (someFan [0]).command :=
  ⟨⟨0, 0, 0, 0, [0], 180000⟩, by decide +kernel, by decide, by decide, by decide, witness_HoldBooks, by decide⟩

/-- The cases of the overlay step: an alarm in each overlay, and a GAS purge that ends or goes on. -/
theorem witness_overlaid :
    (∀ o : Overlay, ∃ x : Zone, x.air.alarm = true ∧ x.vent.overlay = o) ∧
    ∀ out clear : Bool, ∃ x : Zone, x.air.alarm = false ∧ x.vent.overlay = .purge .gas ∧ x.vent.runOut = out ∧
      x.air.clear = clear :=
  ⟨fun o => ⟨{ someZone o with air := { Air.reset with alarm := true } }, rfl, rfl⟩,
    fun out clear => ⟨{ someZone (.purge .gas) with
      air := { Air.reset with clear := clear }
      vent := { (someZone (.purge .gas)).vent with runOut := out } }, rfl, rfl, rfl, rfl⟩⟩

/-- R17 in CONFIG: what each check refuses, and a descriptor that passes. Position 0 is a bound BAY, 3 an ALIAS of
position 2, 5 EMPTY; row 0.1 has no table. -/
theorem test_descriptor_checks :
    let refusal (s : State) (d : List Byte) := firstFail (descriptorChecks s (d ++ [0, 0, 0, 0]) 4)
    refusal (aimed 5) [3, 0, 0, 0] = some ⟨.range, 4, 3⟩ ∧ refusal (aimed 5) [1, 24, 0, 0] = some ⟨.range, 4, 24⟩ ∧
    refusal (aimed 5) [1, 23, 16, 0] = some ⟨.range, 4, 16⟩ ∧ refusal (aimed 5) [1, 23, 15, 64] = some ⟨.range, 4, 64⟩ ∧
    refusal (aimed 5) [1, 23, 15, 255] = none ∧ refusal (aimed 5) [2, 8, 0, 0] = some ⟨.range, 4, 8⟩ ∧
    refusal (aimed 5) [2, 7, 32, 0] = some ⟨.range, 4, 32⟩ ∧ refusal (aimed 5) [2, 7, 31, 64] = some ⟨.range, 4, 64⟩ ∧
    refusal { setUp with cursor := some ⟨0, 1, 0⟩ } [0, 0, 0, 0] = some ⟨.noObject, 4, 1⟩ ∧
    refusal (aimed 0) [0, 0, 0, 0] = some ⟨.conflict, 4, 0⟩ ∧ refusal (aimed 2) [0, 0, 0, 0] = some ⟨.conflict, 4, 0⟩ ∧
    refusal (aimed 5) [2, 7, 31, 63] = some ⟨.conflict, 4, 2⟩ ∧ refusal (aimed 4) [2, 0, 0, 4] = some ⟨.conflict, 4, 2⟩ ∧
    refusal (aimed 5) [2, 0, 0, 2] = some ⟨.conflict, 4, 2⟩ ∧ refusal (aimed 5) [2, 0, 0, 0] = none ∧
    refusal { setUp with cursor := none } [0, 0, 0, 0] = some ⟨.cursorEnd, 4, 0⟩ := by decide +kernel

/-- R17 on an ALIAS with a bound input, in CONFIG. -/
theorem test_descriptor_alias :
    let s := (aimed 3).setStation 1 { setUp.stations.get 1 with binding := .bay (put inputs0 7 (some (spot 3))) }
    (s.stations.get 1).enabled = true ∧
    firstFail (descriptorChecks s [2, 0, 0, 0, 0, 0, 0, 0] 0) = some ⟨.conflict, 0, 2⟩ ∧
    firstFail (descriptorChecks s [2, 0, 0, 2, 0, 0, 0, 0] 0) = none := by decide +kernel

/-- R19: a descriptor of another type or target in RUN, and those that change nothing. -/
theorem test_descriptor_running :
    let at' (p : Fin 64) : State := { site with cursor := some (spot p) }
    site.running = true ∧
    firstFail (descriptorChecks (at' 0) [0, 0, 0, 0, 0, 0, 0, 0] 0) = some ⟨.wrongState, 0, 0⟩ ∧
    firstFail (descriptorChecks (at' 3) [2, 0, 0, 0, 0, 0, 0, 0] 0) = some ⟨.wrongState, 0, 2⟩ ∧
    firstFail (descriptorChecks (at' 3) [2, 8, 0, 2, 0, 0, 0, 0] 0) = some ⟨.wrongState, 0, 2⟩ ∧
    firstFail (descriptorChecks { site with cursor := some ⟨0, 1, 0⟩ } [0, 0, 0, 0, 0, 0, 0, 0] 0) =
      some ⟨.noObject, 0, 1⟩ ∧
    (at' 9).stage (spot 9) = .slot .empty ∧ (at' 3).stage (spot 3) = .slot (.aliasTo (spot 2)) ∧
    (([2, 0, 0, 2, 0, 0, 0, 0] : List Byte).drop 1).take 3 = (spot 2).bytes := by decide +kernel

/-- R99 and R98: the default profile with its first relation broken, and with its first and its last field out of
range. -/
theorem witness_ZoneDefined_refusals :
    let p : Profile := { Profile.default with co := { Profile.default.co with low := 100 } }
    p.inRange ∧ ¬ p.consistent ∧ p.fields[2 - 1]? = some 100 ∧
    profileRanges[([] : List Nat).length]? = some (0, 500) ∧ 500 < 501 ∧
    profileRanges[(Profile.default.fields.take 23).length]? = some (0, 100) ∧ 100 < 101 ∧
    (∀ w ∈ Profile.default.fields.take 23 ++ [101], w < 65536) ∧
    (∀ r ∈ profileRanges.zip (Profile.default.fields.take 23), r.1.1 ≤ r.2 ∧ r.2 ≤ r.1.2) ∧
    site.zones.get 23 = none := by
  unfold Profile.inRange Profile.consistent Ladder.consistent; decide +kernel

/-- A zone in PURGE is CLOSED; one that is OPEN, and one that is not configured, are not. -/
theorem test_zoneClosed : site.zoneClosed 3 = true ∧ site.zoneClosed 0 = false ∧ site.zoneClosed 23 = false := by
  decide +kernel

/-- R54 and R61: an ARRIVE on an empty queue is assigned in its event, and none waits behind a recount in RUN. -/
theorem test_arrive_assigned :
    let s : State := { site with
      lanes := modify site.lanes 0 fun x => { x with queue := [] }
      holds := State.reset.holds, holdOrder := []
      segments := modify site.segments 0 fun x => { x with exchange := some ⟨.poll, 2, [], some 8⟩ } }
    after (exec (.fieldGoodReply 0 [1, 40, 0]) s) (fun t => ((t.lanes.get 0).queue, t.holdOrder)) =
      some ([⟨0, 0, .assigned 0 0 0⟩], [0]) := by decide +kernel

/-- The site with every panel derived. -/
def shown : State := ({ Ev.begin site with panelsAll := true } : Ev).derivePanels.s

theorem witness_PanelLaw : PanelLaw shown ∧ PanelLaw setUp := by unfold PanelLaw; decide +kernel

/-- R78, R79 and R81: a hold that runs out frees the bay it held, and the COUNT panel of its zone goes from FULL to 1;
where a recount is in flight its head goes back to WAITING, and the LANE panel from the zone to WAIT. -/
theorem test_panels_follow :
    (shown.panels.get 0).wanted = some .countFull ∧ (shown.panels.get 1).wanted = some (.laneZone 0 0) ∧
    after (exec (.expired 0) { shown with lanes := State.reset.lanes }) (fun t => (t.panels.get 0).wanted) =
      some (some (.countNumber 1)) ∧
    after (exec (.expired 0) { shown with recount := .scanning 0 0 }) (fun t => (t.panels.get 1).wanted) =
      some (some .laneWait) := by decide +kernel

/-- A fan that is due no step with its ramp IDLE, one TIMING, and one deferred; with the laws its law stands on. -/
theorem witness_RampLaw : DemandLaw site ∧ FanLaw site ∧ PurgeLaw site ∧ ConfigRests site ∧ SpeedLaw site ∧
    RampLaw site ∧ RampLaw (waiting 148) := by
  have fans (s : State) (h : s = site ∨ s = waiting 148) : ∀ f : FanId, ∀ x ∈ s.fans.get f,
      (x.ramp = none → ¬ ((x.state = .stopped ∨ x.state = .running) ∧ x.command ≠ x.wanted ∧
        (x.command < x.wanted → s.supply.deferredFans.get f = none))) ∧
      (∀ v ∈ s.supply.deferredFans.get f, x.command < v ∧ v ≤ x.wanted) ∧
      (s.limitActive = false → s.supply.deferredFans.get f = none) := by
    rcases h with rfl | rfl <;> decide +kernel
  exact ⟨witness_DemandLaw, witness_FanLaw, witness_PurgeLaw, witness_ConfigRests.1, witness_SpeedLaw.1,
    fun f x h => fans _ (.inl rfl) f x h, fun f x h => fans _ (.inr rfl) f x h⟩

/-- The aired site with fan 0 at its wanted speed `w`, its ramp IDLE, and no limit active. -/
def idling (w : Nat) : State :=
  { (aired 0).updFan 0 fun x => { x with command := 60, wanted := w, ramp := none } with supply := Supply.reset }

/-- R130: a MANUAL programme of 100 makes fan 0 want 100, and its IDLE ramp steps from 60 to 65 in that event; one of
50, which the fan's zone gives it as a target, steps it to 55. -/
theorem test_first_step :
    (∀ w ∈ [40, 80], ((idling w).fans.get 0).map (fun x => (x.ramp, x.state, x.command, x.wanted)) =
      some (none, .running, 60, w)) ∧
    (idling 60).limitActive = false ∧ (idling 60).supply.deferredFans.get 0 = none ∧
    after (exec (.setProgramme 1 [0, 2, 100]) (idling 60)) (fun t => (t.fans.get 0).map fun x => (x.command, x.ramp)) =
      some (some (65, some 2000)) ∧
    after (exec (.setProgramme 1 [0, 2, 50]) (idling 60)) (fun t => (t.fans.get 0).map fun x => (x.command, x.ramp)) =
      some (some (55, some 2000)) := by decide +kernel

/-- The aired site on a standby supply of 140 with group 0 at `v` of its 80: RISING and deferred below it, FADING above
it. -/
def moving (v : Nat) : State :=
  let s : State := (aired 140).updGroup 0 fun x =>
    { x with
      commanded := v, movement := if v < 80 then .rising else if v = 80 then .steady else .fading
      fadeTimer := if 80 < v then some 1000 else none }
  { s with supply := { s.supply with deferredGroups := put s.supply.deferredGroups 0 (if v < 80 then some 80 else none) } }

theorem witness_LevelLaw : ∀ v ∈ [60, 80, 90], LevelLaw (moving v) := by
  have once : ∀ i j : StationId, (site.stations.get i).binding ≠ .none → (site.stations.get j).binding ≠ .none →
      (∃ g : GroupId, (site.stations.get i).binding.bindsGroup g = true ∧
        (site.stations.get j).binding.bindsGroup g = true) → i = j := by decide +kernel
  have some' (i : StationId) (g : GroupId) (h : (site.stations.get i).binding.bindsGroup g = true) :
      (site.stations.get i).binding ≠ .none := by
    intro e; simp [e, Binding.bindsGroup] at h
  have groups (v : Nat) (h : v ∈ [60, 80, 90]) : ∀ g : GroupId, ∀ x ∈ (moving v).groups.get g,
      ((moving v).limitActive = false → (moving v).supply.deferredGroups.get g = none) ∧
      if (moving v).driverLost g = true ∨ x.commanded = x.wanted then
        x.movement = .steady ∧ x.fadeTimer = none ∧ (moving v).supply.deferredGroups.get g = none
      else if x.commanded < x.wanted then
        x.movement = .rising ∧ x.fadeTimer = none ∧ (moving v).supply.deferredGroups.get g = some x.wanted
      else x.movement = .fading ∧ x.fadeTimer.isSome = true ∧ (moving v).supply.deferredGroups.get g = none := by
    simp only [List.mem_cons, List.not_mem_nil, or_false] at h
    rcases h with rfl | rfl | rfl <;> decide +kernel
  intro v h
  have part : (moving v).part ≠ .config := by
    simp only [List.mem_cons, List.not_mem_nil, or_false] at h
    rcases h with rfl | rfl | rfl <;> decide +kernel
  have stations : (moving v).stations = site.stations := by
    simp only [List.mem_cons, List.not_mem_nil, or_false] at h
    rcases h with rfl | rfl | rfl <;> decide +kernel
  refine ⟨fun i j g hi hj => ?_, fun c => absurd c part, fun g x k => ⟨fun c => absurd c part, groups v h g x k⟩⟩
  rw [stations] at hi hj
  exact once i j (some' i g hi) (some' j g hj) ⟨g, hi, hj⟩

/-- A group below, at and above its wanted level, with its driver and without. -/
theorem witness_moveLevel :
    (∀ v ∈ [60, 80, 90], ((moving v).groups.get 0).map (fun x => (x.commanded, x.wanted)) = some (v, 80) ∧
      (moving v).driverLost 0 = false) ∧
    (moving 60).supply.deferredGroups.get 0 ≠ none ∧ site.driverLost 1 = true ∧ (site.groups.get 1).isSome = true ∧
    (∃ x, ((moving 90).groups.get 0) = some x ∧ x.movement = .fading) ∧
    (let s : State := (aired 500).updGroup 0 fun x => { x with wanted := 20 }
     s.driverLost 0 = false ∧ (s.groups.get 0).map (fun x => (x.movement, x.commanded)) = some (.steady, 80)) ∧
    (aired 500).supply.deferredGroups.get 0 = none := by
  refine ⟨by decide +kernel, by decide +kernel, by decide +kernel, by decide +kernel, ?_, by decide +kernel⟩
  exact ⟨_, rfl, by decide +kernel⟩

/-- A Start while a loop test runs and while a recount is in flight. -/
theorem witness_StartTaken_in_hand :
    let s : State := { testing with recount := .scanning 9 255 }
    s.part = .config ∧ s.link.waiting = none ∧ firstFail s.startChecks = none ∧
    (s.segments.get 0).test = some someTest ∧ (s.segments.get 0).testRunning = true ∧
    s.recount = .scanning 9 255 ∧ setUp.recount = .idle ∧
    after (exec (.start 7 []) s) (fun t => (t.recount, (t.segments.get 0).exchange, (t.segments.get 0).pollPos)) =
      some (.scanning 0 255, some ⟨.poll, 0, [], none⟩, 1) := by decide +kernel

/-- A deferred fan of class 3 that a purge of zone 0 makes class 1, and fans that it does not. -/
theorem witness_PurgeBegun_promotes :
    (waiting 148).part ≠ .config ∧ (waiting 148).running = true ∧ (waiting 148).zones.get 0 = some (someZone .none) ∧
    ((waiting 148).fans.get 0).map (fun x => (x.served, (waiting 148).fanClass x)) = some ([0], 3) ∧
    (waiting 148).supply.deferredFans.get 0 = some 60 ∧
    ((waiting 148).fans.get 1).map Fan.served = some [1] ∧ (waiting 148).supply.deferredFans.get 1 = none := by
  decide +kernel

/-- R159: 128 of 128 is committed, and fan 0, which the purge makes class 1, waits for 20 more. Both groups are FORCED
then, and pass 2 brings fan 1 to its minimum speed, 22 less: fan 0 takes its deferred 60. -/
theorem test_purge_serves_the_promoted :
    ((Ev.begin (waiting 128)).enterPurge 0 .commanded 60).s.supply.deferredFans.get 0 = none ∧
    (((Ev.begin (waiting 128)).enterPurge 0 .commanded 60).s.fans.get 0).map Fan.command = some 60 ∧
    (((Ev.begin (waiting 128)).enterPurge 0 .commanded 60).s.fans.get 1).map Fan.command = some 30 := by decide +kernel

/-- An evaluation whose alarm enters a GAS purge of zone 0. -/
theorem witness_ZoneEvaluated_enters :
    let x : Zone := { someZone .none with air := ⟨true, 8000, 8000, 0, 0, false, false, false, true⟩ }
    let s : State := site.setZone 0 (some x)
    s.zones.get 0 = some x ∧ x.vent.evalTimer = some 10000 ∧ x.vent.overlay = .none ∧
    (x.evaluated (s.sensed 0) (s.validity 0) (s.coInstant 0) (s.no2Instant 0) 10000).air.alarm = true := by
  decide +kernel

/-- A route table that is full, and a key that is not in it. -/
theorem witness_LaneAndRouteDefined_full :
    let s : State := { site with routes := Vector.replicate 64 (some ⟨2, 5, 0, []⟩) }
    s.part ≠ .stopping ∧ (s.lanes.get 0).direction = .entry ∧ (s.zones.get 1).isSome = true ∧ s.routeFor 0 1 = none ∧
    (∀ i : RouteId, (s.routes.get i).isSome = true) ∧
    after (exec (.defineRoute 1 [0, 1, 0, 0, 0]) s) replied = some (some ⟨0x82, 1, [6, 0, 0, 0]⟩) := by decide +kernel

end Sys2Proof.Tests
end

section
/-!
The Guidance Unit's arrivals (R54, R60): what a lane event does to the queue of an entry lane, and
which buckets an effective level may use.
-/

namespace Sys2Proof.Machine

theorem permitted_eq_filter (el : AccessLevel) : permitted el = bucketOf el true ::
    ((List.finRange 4).filter fun l => el ≤ l).map fun l => bucketOf l false := by
  simp only [permitted, ← List.filterMap_eq_filter, List.map_filterMap]
  congr 2
  funext l
  by_cases h : el ≤ l <;> simp [h, Option.guard]

theorem Ev.laneEvent_arrive {e : Ev} {l : LaneId} (hentry : (e.s.lanes.get l).direction = .entry)
    (vl : AccessLevel) : e.laneEvent l 1 vl = e.arrive l vl := by
  simp [Ev.laneEvent, hentry]

theorem Ev.arrive_s_of_room {e : Ev} {l : LaneId} (hroom : (e.s.lanes.get l).queue.length < 4)
    (vl : AccessLevel) : (e.arrive l vl).s = e.s.updLane l fun x =>
      { x with queue := x.queue ++ [⟨vl, max vl (e.s.lanes.get l).lc, .waiting⟩] } := by
  simp only [Ev.arrive, if_pos hroom]
  split <;> rfl

theorem Ev.arrive_queue_of_room {e : Ev} {l : LaneId} (hroom : (e.s.lanes.get l).queue.length < 4)
    (vl : AccessLevel) : ((e.arrive l vl).s.lanes.get l).queue =
      (e.s.lanes.get l).queue ++ [⟨vl, max vl (e.s.lanes.get l).lc, .waiting⟩] := by
  simp [Ev.arrive_s_of_room hroom]

/-- Settles O25 (R60). The four lists are the general form at each level; an ARRIVE joins the queue with the larger of
its own level and the lane's. -/
theorem permittedBuckets : Obligations.PermittedBuckets := by
  unfold Obligations.PermittedBuckets
  refine ⟨by decide, by decide, by decide, by decide, permitted_eq_filter, ?_⟩
  intro e l vl hentry hroom
  rw [Ev.laneEvent_arrive hentry, Ev.arrive_queue_of_room hroom]

end Sys2Proof.Machine
end

section
/-!
The Panel Unit's handshake (R82 to R86): what a poll reply of a SIGN station makes of a panel's record, one equation
for each case of R86, and when a panel whose shown content is unknown is sent again.
-/

namespace Sys2Proof.Machine

section
variable {x : Panel} {t : Byte} {now : Nat}

/-! ### A READY while an update is in flight (R85, R86) -/

theorem Panel.ready_of_confirmed {c : Content} (hflight : x.inFlight = some (c, t)) :
    x.ready t now = { x with
      lastReport := .ready t, shown := some c, shownTag := some t, inFlight := none
      holdOff := if x.kind.isCount then some (now + Config.holdOffMs) else x.holdOff } := by
  simp only [Panel.ready, hflight, if_true]

theorem Panel.ready_of_dropped {c : Content} {u : Byte} (hflight : x.inFlight = some (c, u)) (hne : t ≠ u)
    (hshown : x.shownTag = some t) : x.ready t now = { x with lastReport := .ready t, inFlight := none } := by
  simp only [Panel.ready, hflight, if_neg hne, if_pos hshown]

theorem Panel.ready_of_unknown_in_flight {c : Content} {u : Byte} (hflight : x.inFlight = some (c, u)) (hne : t ≠ u)
    (hshown : x.shownTag ≠ some t) :
    x.ready t now = { x with lastReport := .ready t, inFlight := none, shown := none, shownTag := none } := by
  simp only [Panel.ready, hflight, if_neg hne, if_neg hshown]

/-! ### A READY with no update in flight (R86) -/

theorem Panel.ready_of_expected (hflight : x.inFlight = none) (hshown : x.shownTag = some t ∨ x.shownTag = none) :
    x.ready t now = { x with lastReport := .ready t } := by
  simp only [Panel.ready, hflight, if_pos hshown]

theorem Panel.ready_of_unknown (hflight : x.inFlight = none) (hne : x.shownTag ≠ some t) (hsome : x.shownTag ≠ none) :
    x.ready t now = { x with lastReport := .ready t, shown := none, shownTag := none } := by
  simp only [Panel.ready, hflight, if_neg (not_or.mpr ⟨hne, hsome⟩)]

/-! ### The poll reply (R85) -/

theorem Panel.report_of_busy {p : List Byte} (h : p.getD 0 0 = 0) :
    x.report p now = { x with lastReport := .busy } := if_pos h

theorem Panel.report_of_ready {p : List Byte} (h : p.getD 0 0 = 1) : x.report p now = x.ready (p.getD 1 0) now :=
  if_neg (by rw [h]; decide)

/-! ### After a READY: the record judged again (R82, R83) -/

theorem Panel.ready_lastReport : (x.ready t now).lastReport = .ready t := by
  unfold Panel.ready
  split
  · split
    · rfl
    · split <;> rfl
  · split <;> rfl

theorem Panel.dirty_of_shown_unknown (hshown : x.shown = none) (hwanted : x.wanted.isSome = true)
    (hflight : x.inFlight = none) : x.dirty = true := by
  obtain ⟨c, hc⟩ := Option.isSome_iff_exists.mp hwanted
  simp [Panel.dirty, Panel.expected, hc, hshown, hflight]

theorem Panel.readyToSend_of_dirty (hdirty : x.dirty = true) (hreport : x.lastReport = .ready t)
    (hflight : x.inFlight = none) (hhold : x.holdOff = none) : x.readyToSend = true := by
  simp [Panel.readyToSend, PanelReport.tag, hdirty, hreport, hflight, hhold]

end

/-- Settles O31 (R85, R86): the cases of a READY and of a poll reply, and a panel of unknown content, which is dirty
and, its last report being READY, ready to send once no hold-off runs. -/
theorem panelHandshake : Obligations.PanelHandshake := by
  unfold Obligations.PanelHandshake
  intro x t now
  refine ⟨?confirmed, fun c u => Panel.ready_of_dropped, fun c u => Panel.ready_of_unknown_in_flight,
    Panel.ready_of_expected, Panel.ready_of_unknown, fun p => ⟨Panel.report_of_busy, Panel.report_of_ready⟩, ?unknown⟩
  case confirmed =>
    rintro c _ hflight rfl
    exact Panel.ready_of_confirmed hflight
  case unknown =>
    intro hshown hwanted hflight
    have hdirty := Panel.dirty_of_shown_unknown hshown hwanted hflight
    exact ⟨hdirty, Panel.readyToSend_of_dirty hdirty Panel.ready_lastReport hflight⟩

end Sys2Proof.Machine
end

section
/-!
The Air Unit's averages (R103): what an evaluation makes of them with no valid head, at the seeding and after it, and
the rounding of the two averages.
-/

namespace Sys2Proof.Machine

/-! ### The two averages, rounded down (R103) -/

theorem shortAverage_bounds (a i : Nat) :
    8 * shortAverage a i ≤ 7 * a + 16 * i ∧ 7 * a + 16 * i < 8 * shortAverage a i + 8 :=
  ⟨Nat.mul_div_le _ 8, Nat.lt_mul_div_succ _ (by decide)⟩

theorem longAverage_bounds (l i : Nat) :
    64 * longAverage l i ≤ 63 * l + 16 * i ∧ 63 * l + 16 * i < 64 * longAverage l i + 64 :=
  ⟨Nat.mul_div_le _ 64, Nat.lt_mul_div_succ _ (by decide)⟩

/-! ### The averages brought up to date (R103) -/

section
variable {a : Air} {valid co no2 : Nat}

theorem Air.average_of_no_valid (hvalid : valid = 0) : a.average valid co no2 = a := if_pos hvalid

theorem Air.average_of_unseeded (hvalid : 0 < valid) (hseeded : a.seeded = false) :
    a.average valid co no2 =
      { a with seeded := true, aCo := 16 * co, lCo := 16 * co, aNo2 := 16 * no2, lNo2 := 16 * no2 } := by
  simp only [Air.average, if_neg hvalid.ne', hseeded, Bool.false_eq_true, if_false]

theorem Air.average_of_seeded (hvalid : 0 < valid) (hseeded : a.seeded = true) :
    a.average valid co no2 = { a with
      aCo := shortAverage a.aCo co, lCo := longAverage a.lCo co
      aNo2 := shortAverage a.aNo2 no2, lNo2 := longAverage a.lNo2 no2 } := by
  simp only [Air.average, if_neg hvalid.ne', if_pos hseeded]

end

/-! ### The Air Unit's part of an evaluation (R102) -/

/-- The tests write the three flags and the mark of the evaluation, so the averages are those of `Air.average`. -/
theorem Zone.airStep_air_of_sensed (x : Zone) (valid co no2 : Nat) :
    (x.airStep true valid co no2).air = { x.air.average valid co no2 with
      alarm := (x.air.average valid co no2).alarmHolds (x.pendingProfile.getD x.profile)
      clear := (x.air.average valid co no2).clearHolds (x.pendingProfile.getD x.profile)
      advisory := (x.air.average valid co no2).advisoryAfter (x.pendingProfile.getD x.profile)
      evaluated := true } := rfl

/-- Settles O33 (R103), by the three cases of an evaluation: no valid head, the seeding, and the averages kept since. -/
theorem averagesAtEvaluation : Obligations.AveragesAtEvaluation := by
  unfold Obligations.AveragesAtEvaluation
  intro x valid co no2
  simp only [Zone.airStep_air_of_sensed]
  refine ⟨fun hvalid => ?unchanged, fun hvalid hseeded => ?seeding, fun hvalid hseeded => ?averaging⟩
  case unchanged => simp only [Air.average_of_no_valid hvalid, and_self]
  case seeding => simp only [Air.average_of_unseeded hvalid hseeded, and_self]
  case averaging =>
    simp only [Air.average_of_seeded hvalid hseeded]
    obtain ⟨hco, hco'⟩ := shortAverage_bounds x.air.aCo co
    obtain ⟨hno2, hno2'⟩ := shortAverage_bounds x.air.aNo2 no2
    obtain ⟨hlco, hlco'⟩ := longAverage_bounds x.air.lCo co
    obtain ⟨hlno2, hlno2'⟩ := longAverage_bounds x.air.lNo2 no2
    exact ⟨hseeded, hco, hco', hno2, hno2', hlco, hlco', hlno2, hlno2'⟩

end Sys2Proof.Machine
end

section
/-!
The Ventilation Unit's demands (R111, R113 to R115): the gas demand in its three ranges and its bound, what stages 2 and
3 of an evaluation leave in a zone, the zone demand of each programme, and the ventilating flag and Z of stage 5.
-/

namespace Sys2Proof.Machine

/-! ### The gas demand (R111) -/

section
variable {a low high : Nat}

theorem gasDemand_of_le_low (hlow : a ≤ 16 * low) : gasDemand a low high = 0 := if_pos hlow

theorem gasDemand_of_high_le (hlow : 16 * low < a) (hhigh : 16 * high ≤ a) : gasDemand a low high = 100 := by
  rw [gasDemand, if_neg hlow.not_ge, if_pos hhigh]

theorem gasDemand_of_between (hlow : 16 * low < a) (hhigh : a < 16 * high) :
    gasDemand a low high = 100 * (a - 16 * low) / (16 * (high - low)) := by
  rw [gasDemand, if_neg hlow.not_ge, if_neg hhigh.not_ge]

/-- The bound asks for no law of the profile: an average between the two levels puts `low` below `high`. -/
theorem gasDemand_le (a low high : Nat) : gasDemand a low high ≤ 100 := by
  rcases le_or_gt a (16 * low) with hlow | hlow
  · simp [gasDemand_of_le_low hlow]
  · rcases le_or_gt (16 * high) a with hhigh | hhigh
    · exact (gasDemand_of_high_le hlow hhigh).le
    · rw [gasDemand_of_between hlow hhigh]
      exact Nat.div_le_of_le_mul (by omega)

end

/-! ### Stages 2 and 3 of an evaluation (R111, R113) -/

section
variable (x : Zone) (sensed : Bool)

@[simp] theorem Zone.demands_dCo_of_sensed :
    (x.demands true).vent.dCo = gasDemand x.air.aCo x.profile.co.low x.profile.co.high := rfl

@[simp] theorem Zone.demands_dNo2_of_sensed :
    (x.demands true).vent.dNo2 = gasDemand x.air.aNo2 x.profile.no2.low x.profile.no2.high := rfl

@[simp] theorem Zone.demands_dCo_of_unsensed : (x.demands false).vent.dCo = 0 := rfl

@[simp] theorem Zone.demands_dNo2_of_unsensed : (x.demands false).vent.dNo2 = 0 := rfl

theorem Zone.demands_m : (x.demands sensed).vent.m = min 255 (x.vent.m - x.vent.m / 4 + x.vent.e) := rfl

theorem Zone.demands_e : (x.demands sensed).vent.e = 0 := rfl

theorem Zone.demands_dTraffic : (x.demands sensed).vent.dTraffic =
    min 100 ((x.demands sensed).vent.m * x.profile.trafficGain / 4) := rfl

end

section
variable {v : Vent} {p : Profile}

/-! ### The zone demand of each programme (R114) -/

theorem Vent.formDemand_of_purge {c : PurgeCause} (hpurge : v.overlay = .purge c) : v.formDemand p = 100 := by
  simp only [Vent.formDemand, hpurge]

theorem Vent.formDemand_of_blind (hblind : v.overlay = .blind) : v.formDemand p = p.blindDemand := by
  simp only [Vent.formDemand, hblind]

theorem Vent.formDemand_of_manual (hnone : v.overlay = .none) (hbase : v.base = .manual) :
    v.formDemand p = v.manualValue := by
  simp only [Vent.formDemand, hnone, hbase]

theorem Vent.formDemand_of_auto (hnone : v.overlay = .none) (hbase : v.base = .auto) :
    v.formDemand p = max (max v.dCo (max v.dNo2 v.dTraffic)) p.autoFloor := by
  simp only [Vent.formDemand, hnone, hbase]

theorem Vent.formDemand_of_night (hnone : v.overlay = .none) (hbase : v.base = .night) :
    v.formDemand p = min p.nightCeiling (max (max v.dCo (max v.dNo2 v.dTraffic)) p.nightFloor) := by
  simp only [Vent.formDemand, hnone, hbase]

/-! ### Stage 5 (R115) -/

@[simp] theorem Vent.stage5_demand (v : Vent) (p : Profile) : (v.stage5 p).demand = v.formDemand p := by
  unfold Vent.stage5
  split <;> rfl

/-- Overlay NONE with base AUTO or NIGHT: the flag has the two thresholds for its hysteresis. -/
theorem Vent.stage5_ventilating_of_automatic (hnone : v.overlay = .none) (hbase : v.base ≠ .manual) :
    (v.stage5 p).ventilating =
      if p.startThreshold ≤ (v.stage5 p).demand then true
      else if (v.stage5 p).demand < p.stopThreshold then false else v.ventilating := by
  simp only [Vent.stage5, if_pos (And.intro hnone hbase)]

theorem Vent.stage5_z_of_automatic (hnone : v.overlay = .none) (hbase : v.base ≠ .manual) :
    (v.stage5 p).z = if (v.stage5 p).ventilating then (v.stage5 p).demand else 0 := by
  simp only [Vent.stage5, if_pos (And.intro hnone hbase)]

/-- Overlay PURGE or BLIND, or base MANUAL: the flag only says whether Z is above 0. -/
theorem Vent.stage5_of_forced (hforced : v.overlay ≠ .none ∨ v.base = .manual) :
    v.stage5 p = { v with
      demand := v.formDemand p, ventilating := decide (0 < v.formDemand p), z := v.formDemand p } :=
  if_neg fun ⟨hnone, hbase⟩ => hforced.elim (· hnone) hbase

section
variable (hnone : v.overlay = .none) (hbase : v.base ≠ .manual)
include hnone hbase

theorem Vent.stage5_sets_ventilating (hstart : p.startThreshold ≤ (v.stage5 p).demand) :
    (v.stage5 p).ventilating = true := by
  rw [Vent.stage5_ventilating_of_automatic hnone hbase, if_pos hstart]

theorem Vent.stage5_clears_ventilating (hstart : (v.stage5 p).demand < p.startThreshold)
    (hstop : (v.stage5 p).demand < p.stopThreshold) : (v.stage5 p).ventilating = false := by
  rw [Vent.stage5_ventilating_of_automatic hnone hbase, if_neg hstart.not_ge, if_pos hstop]

theorem Vent.stage5_keeps_ventilating (hstop : p.stopThreshold ≤ (v.stage5 p).demand)
    (hstart : (v.stage5 p).demand < p.startThreshold) : (v.stage5 p).ventilating = v.ventilating := by
  rw [Vent.stage5_ventilating_of_automatic hnone hbase, if_neg hstart.not_ge, if_neg hstop.not_gt]

end

end

/-- Settles O38 (R111, R113 to R115), stage by stage: the gas demands in their three ranges, the movement counter with
its traffic demand, D of each programme, and stage 5 with and without the thresholds. -/
theorem demandFormulas : Obligations.DemandFormulas := by
  unfold Obligations.DemandFormulas
  refine ⟨fun x => ?gas, fun x sensed => ⟨x.demands_m sensed, x.demands_e sensed, x.demands_dTraffic sensed⟩,
    fun v p => ⟨fun _ => Vent.formDemand_of_purge, Vent.formDemand_of_blind, Vent.formDemand_of_manual,
      Vent.formDemand_of_auto, Vent.formDemand_of_night⟩,
    fun v p => ⟨v.stage5_demand p, ?automatic, ?forced⟩⟩
  case gas =>
    simp only [Zone.demands_dCo_of_sensed, Zone.demands_dNo2_of_sensed]
    exact ⟨gasDemand_of_le_low, gasDemand_of_high_le, gasDemand_of_between,
      gasDemand_of_le_low, gasDemand_of_high_le, gasDemand_of_between,
      gasDemand_le .., gasDemand_le .., x.demands_dCo_of_unsensed, x.demands_dNo2_of_unsensed⟩
  case automatic =>
    intro hnone hbase
    exact ⟨Vent.stage5_sets_ventilating hnone hbase, Vent.stage5_clears_ventilating hnone hbase,
      Vent.stage5_keeps_ventilating hnone hbase, Vent.stage5_z_of_automatic hnone hbase⟩
  case forced =>
    intro hforced
    simp [Vent.stage5_of_forced hforced]

end Sys2Proof.Machine
end
